-- ==== Sys2Proof/Word.lean ====
section
/-! DEFINITION. The words of the two links and of the counters: bytes, lane numbers, condition sets, and the
plainest arithmetic over them. -/

namespace Sys2Proof

/-- One character's data bits, on either link (06 R118, 11 R189). -/
abbrev Byte := BitVec 8

/-- A lane number, the lower five bits of a header and of the straps (06 R125, 10 R181). -/
abbrev Lane := BitVec 5

/-- A set of the 16 conditions, the bit of rank `k` being bit `k - 1` (11, 11.5.2). -/
abbrev CondSet := BitVec 16

/-- A number carried in one byte. -/
abbrev byteOf (n : Nat) : Byte := BitVec.ofNat 8 n

/-- A two-byte number, low byte first (11 R196). -/
def wordBytes (n : Nat) : List Byte := [byteOf n, byteOf (n / 256)]

/-- A three-byte number, low byte first (11 R196). -/
def tripleBytes (n : Nat) : List Byte := [byteOf n, byteOf (n / 256), byteOf (n / 65536)]

/-- A flag sent by the DL-42 is 0 for no and 1 for yes (11 R196). -/
def flagByte (b : Bool) : Byte := if b then 1 else 0

/-- A flag byte is read as no when 0 and as yes for any other value (11 R196). -/
def readFlag (b : Byte) : Bool := b != 0

end Sys2Proof
end

