-- ==== Sys2Proof/Syntax.lean ====
section
/-! DEFINITION. The commands: one constructor of `Instr` for each row of spec/opcode_table.json, with the operands
that come from outside the block (or from its own clock). -/

namespace Sys2Proof

/-- A title key: the identifier's 13 digits, as the packed nibbles of a frame carry them, and a part number
(00_scope, Title keys; 11 R196). A nibble above 9 can come only from a peer's frame (01 R9). -/
structure TitleKey where
  digits : List (BitVec 4)
  part : BitVec 16
  deriving DecidableEq, Repr

/-- The commands of the block, in the table's order. -/
inductive Instr where
  /-- The rising edge of POWER GOOD, with the levels at the strap pins (R181). -/
  | powerGoodRise (lane : Lane) (rate : BitVec 2) (observer : Bool)
  | powerGoodFall
  | laneReset
  | requestComplete
  | requestGapTimeout
  | lanePortFramingError
  | unknownRequest
  | present
  | configureTimes
  | configureClass
  | configureRange
  | configureMask
  | configureStopRouting
  | configureAutomaticEnd
  | commence
  | pause
  | resume
  | clearWork
  | loadWatchEntry
  | readEntry
  | readItem
  | readRoster
  | readStatus
  | readCondition
  | ackAttention
  | endAttention
  | clearConditions
  | outputRecordSent
  | dispositionRelease
  /-- A complete character with mark bit 1 (R125): its data bits and its noisy mark. -/
  | headerReceived (data : Byte) (noisy : Bool)
  | dockFramingError
  | lineBreak
  | truncation
  | discardConfirmed
  | peerFrameComplete
  | peerClaim
  | peerCorrection
  | peerAnswer
  | peerInquiry
  | peerGreeting
  | duplicateLane
  | ownClaimApplied
  | ownCorrectionApplied
  | ownAnswerMerged
  | ownInquiryHandled
  | ownGreetingHandled
  /-- A boundary of the transmitter's bit time, with the receiver's count of idle bit times there (R141, R144). -/
  | attemptStart (idleBits : Nat)
  | ownFrameCompletion
  | collision
  | jamEnd
  /-- The deadline of the item with this tag has reached 0 (R44). -/
  | deadlineExpiry (tag : Byte)
  /-- The settle timer of the item with this tag has run out (R42). -/
  | settleExpiry (tag : Byte)
  /-- The window timer of the own inquiry for this title has run out (R89). -/
  | inquiryWindowExpiry (title : TitleKey)
  /-- The hold-off of the pending answer to this inquirer for this title has run out (R95). -/
  | answerHoldOffExpiry (inquirer : Lane) (title : TitleKey)
  /-- The hold-off of the pending correction of this claim has run out (R69). -/
  | correctionHoldOffExpiry (claimLane : Lane) (claimSeq : Byte)
  | greetingRequeueExpiry
  /-- A 1 ms tick of the dwell clock, with the level of BELT RUNNING sampled at it (R44). -/
  | dwellClockTick (beltRunning : Bool)
  /-- A complete character with mark bit 0 (R126). -/
  | payloadCharacterReceived (data : Byte) (noisy : Bool)
  /-- A complete lane port character with stop bit 1 (R190). -/
  | requestCharacterReceived (data : Byte)
  | startBitSeen
  | breakEnd
  | highLineWaitEnd
  deriving DecidableEq, Repr

end Sys2Proof
end

