-- ==== Sys2Proof/Config.lean ====
section
/-! DEFINITION. What the spec fixes as numbers, and the free values: constants with no body, for what the spec gives
the block to send or record without saying which value it is. -/

namespace Sys2Proof.Config

/-- Reference periods in 1 ms of real time (24.000 MHz, 00_scope, Time). -/
def periodsPerMs : Nat := 24000
/-- Reference periods in 250 µs, the unit of hold-offs. -/
def periodsPerHoldOff : Nat := 6000
/-- The greeting re-queue delay, 100 ms (R78). -/
def greetingRequeueMs : Nat := 100
/-- The inter-character gap of the lane port, 2 ms (R190). -/
def gapPeriods : Nat := 2 * periodsPerMs
/-- Reference periods of one lane port bit time (R189). -/
def lanePortBitPeriods : Nat := 104
/-- Bit times of a lane port character (R189). -/
def lanePortCharBits : Nat := 10
/-- Bit times of a dock line character (R118). -/
def dockCharBits : Nat := 11
/-- Bit times of idle line after which a frame is truncated and a discard confirmed (R129, R132). -/
def settleIdleBits : Nat := 22
/-- Entries of the tally table (R1). -/
def tallySize : Nat := 512
/-- Item records of the arrival queue (R27). -/
def queueSize : Nat := 8
/-- Requests of the input buffer (R192). -/
def bufferSize : Nat := 4
/-- Unsent replies and DISPOSITION records of the output stream (R194). -/
def replyRoom : Nat := 4
def dispositionRoom : Nat := 8
/-- Pending corrections and answers (R68, R94). -/
def correctionLimit : Nat := 4
def answerLimit : Nat := 4
/-- Discards on the unconfirmed list (R132). -/
def discardLimit : Nat := 4
/-- Collisions at which a frame is abandoned (R147). -/
def attemptLimit : Nat := 16
/-- The greatest count and ordinal (R1). -/
def maxCount : Nat := 63
/-- The greatest usable mass in grams, and the mass a clamped one is carried at (R31). -/
def maxMass : Nat := 60000
/-- The payload length the request assembler stores at most (R190). -/
def maxPayload : Nat := 40

/-- FREE VALUE (log 9): the title key of an entry that met a parity error, "as far as it was read" (R3): absent, or the 13
digits and the part number that fill the 15 bytes of the title field (11.5.3). The number says which draw it is. -/
opaque keyAsFarAsRead : Nat → TitleKey → Option (Vector (BitVec 4) 13 × BitVec 16)

/-- FREE VALUE (log 10): a byte the DL-42 sends in a field whose content the spec leaves open. The number says which
draw it is. -/
opaque openByte : Nat → Byte

/-- FREE VALUE (log 11): the lane port character of a title key digit above 9, which only a peer's frame can bring. -/
opaque nonDecimalChar : BitVec 4 → Byte

/-- FREE CHOICE (log 12): whether the flags byte of an ACK ATTENTION reply shows the four flags as the request leaves
them (true) or as it finds them (false); R172 and 11.5.3 say neither. The number says which reply it is. -/
opaque ackShowsFlagsAfter : Nat → Bool

/-- FREE CHOICE (log 42): which of the 16 sample intervals of a dock line bit time are the longer ones. R119 fixes how many
are, and the intervals that come first by these ranks are they. -/
opaque intervalRank : BitVec 2 → Nat → Nat

end Sys2Proof.Config
end

