-- ==== Sys2Proof/Machine/State.lean ====
section
/-! DEFINITION. The state of the DL-42, block by block as 00_scope's block diagram names them, and its value after
POWER GOOD. The default of a field is the value POWER GOOD gives it. Times are held in periods of the 24.000 MHz
reference. -/

namespace Sys2Proof.Machine

open Sys2Proof

/-! ## Names of the part -/

/-- 10.2. -/
inductive StationState where
  | strapFault | configuring | joining | run | paused | halted
  deriving DecidableEq, Repr

/-- R18. -/
inductive Certainty where
  | unsure | certain
  deriving DecidableEq, Repr

/-- R31: how a mass was received. A clamped mass is carried at 60000 g. -/
inductive Mass where
  | usable (grams : Nat) | clamped | absent
  deriving DecidableEq, Repr

/-- R28. -/
inductive Stage where
  | inquiring | queued | onLine | settling | decided
  deriving DecidableEq, Repr

/-- R28, R43. -/
inductive Disposition where
  | preserve | stock | surplus | hold | reject
  deriving DecidableEq, Repr

/-- R28. -/
inductive HoldReason where
  | none | mass | watch | deadline | contention | halted | cleared
  deriving DecidableEq, Repr

/-- R110. -/
inductive MassCheck where
  | skipped | matched | mismatch
  deriving DecidableEq, Repr

/-- R125. -/
inductive FrameKind where
  | greeting | claim | correction | inquiry | answer
  deriving DecidableEq, Repr

/-- R62. -/
inductive Role where
  | unknown | lane | observer
  deriving DecidableEq, Repr

/-- R155. -/
inductive WatchEvent where
  | presented | counted | completed | surplus
  deriving DecidableEq, Repr

/-- R163, in rank order. -/
inductive Condition where
  | tallyMemoryFault | duplicateLane | lineContention | deadline | lateCorrection | massMismatch | watchMatch
  | tallyGap | lineOverrun | transmitBacklog | lineCheck | lineNoise | peerRestart | correctedOrdinal
  | identifierFault | portOverrun
  deriving DecidableEq, Repr

/-- The result codes of 11.3. -/
inductive ResultCode where
  | done | doneClamped | none | refusedState | refusedFull | refusedForm | refusedRole
  deriving DecidableEq, Repr

/-! ## Station control -/

/-- Station control (R181) and the level of POWER GOOD. -/
structure Station where
  powerGood : Bool := true
  state : StationState := .configuring
  lane : Lane := 1
  rate : BitVec 2 := 0
  observer : Bool := false
  deriving DecidableEq, Repr

/-! ## Tally engine -/

/-- One tally entry (R1). `parityOk` is its stored parity check (R3). -/
structure Entry where
  key : TitleKey
  count : Nat
  refMass : Option Nat
  certainty : Certainty
  lastClaim : Option (Lane × Byte)
  pins : Nat
  parityOk : Bool := true
  deriving DecidableEq, Repr

/-- The tally engine. The table stands in recency order: the entry at list index `k` has recency position `k + 1`
(R1, R2). -/
structure Tally where
  table : List Entry := []
  epoch : BitVec 16 := 0
  deriving DecidableEq, Repr

/-! ## Arrival queue manager -/

/-- One item record (R28). `settle` is the item's settle timer (R60), `pinned` says whether it holds a pin (R21), and
`accepted` is its place in acceptance order (R138). -/
structure Item where
  tag : Byte
  chars : List Byte
  part : BitVec 16
  mass : Mass
  cls : Nat
  stage : Stage := .inquiring
  completed : Bool := false
  ordinal : Option Nat := none
  claimSeq : Option Byte := none
  deadline : Nat
  massCheck : MassCheck := .skipped
  corrected : Bool := false
  watchMatch : Option Nat := none
  disposition : Option Disposition := none
  reason : HoldReason := .none
  settle : Option Nat := none
  pinned : Bool := false
  accepted : Nat
  deriving DecidableEq, Repr

/-- The arrival queue manager (R27, R29, R44). -/
structure Arrival where
  items : List Item := []
  nextTag : Byte := 0
  accepted : Nat := 0
  belt : Bool := false
  deriving DecidableEq, Repr

/-! ## Claim sequencer -/

/-- One lane record of the roster (R62). The record of the station's own lane keeps its last sequence in
`ClaimSequencer.ownSeq` (R66). -/
structure LaneRecord where
  present : Bool := false
  lastSeq : Byte := 0
  role : Role := .unknown
  deriving DecidableEq, Repr

/-- R68. -/
inductive CorrectionStage where
  | holding | held | queued | sending
  deriving DecidableEq, Repr

/-- One pending correction (R68). `number` tells it from another of the same claim lane and claim sequence, which a peer
that restarted or repeated a sequence can bring (DESIGN CHOICE, log 32). `drawn` is the sequence drawn at its first attempt
and used at every later one (R70). -/
structure Correction where
  number : Nat
  claimLane : Lane
  claimSeq : Byte
  key : TitleKey
  value : Nat
  stage : CorrectionStage := .holding
  holdOff : Nat
  drawn : Option Byte := none
  deriving DecidableEq, Repr

/-- The claim sequencer (3.1). Roster record of lane `k` at index `k - 1`. HELD corrections stand in the order in which
their hold-offs expired (R69); `scheduled` numbers the corrections (log 32). -/
structure ClaimSequencer where
  ownSeq : Byte := 0
  roster : List LaneRecord := List.replicate 31 {}
  corrections : List Correction := []
  scheduled : Nat := 0
  greetingTimer : Option Nat := none
  deriving DecidableEq, Repr

/-! ## Inquiry unit -/

/-- R84. -/
inductive InquiryStage where
  | queued | sending | window
  deriving DecidableEq, Repr

/-- One own inquiry (R84). Its attempt count is its transmit queue entry's (R138). -/
structure Inquiry where
  key : TitleKey
  waiting : List Byte
  stage : InquiryStage := .queued
  window : Option Nat := none
  deriving DecidableEq, Repr

/-- R94. -/
inductive AnswerStage where
  | holding | queued | sending
  deriving DecidableEq, Repr

/-- One pending answer (R94). Its attempt count is its transmit queue entry's (R138). -/
structure Answer where
  inquirer : Lane
  key : TitleKey
  stage : AnswerStage := .holding
  holdOff : Nat
  deriving DecidableEq, Repr

/-- The inquiry unit (R83). -/
structure InquiryUnit where
  inquiries : List Inquiry := []
  answers : List Answer := []
  deriving DecidableEq, Repr

/-! ## Rule unit -/

/-- One rule class (R101, R104). -/
structure RuleClass where
  p : Nat := 1
  s : Nat := 1
  r : Nat := 20
  f : Nat := 6
  deriving DecidableEq, Repr

/-- One publisher range (R101, R105). -/
structure PublisherRange where
  enable : Bool := false
  low : Nat := 0
  high : Nat := 0
  cls : Nat := 0
  deriving DecidableEq, Repr

/-- The rule unit's configuration (R101), times in milliseconds. -/
structure Rules where
  classes : List RuleClass := List.replicate 4 {}
  ranges : List PublisherRange := List.replicate 8 {}
  dwell : Nat := 1500
  inquiryWindow : Nat := 20
  settleWindow : Nat := 30
  deriving DecidableEq, Repr

/-! ## Line transceiver -/

/-- The character receiver as the rest of the block sees it (R120 to R123). The line is idle in `idle` alone. -/
inductive Receiver where
  | stopped | waitingHigh | idle | inCharacter | inBreak
  deriving DecidableEq, Repr

/-- A frame in assembly or in the frame check: its header byte, the characters after it, its noisy characters (6.4). -/
structure RawFrame where
  header : Byte
  chars : List Byte := []
  noisy : Nat := 0
  deriving DecidableEq, Repr

/-- The frame assembler (6.4). -/
inductive Assembler where
  | muted | assembling (frame : RawFrame)
  deriving DecidableEq, Repr

/-- One unconfirmed discard: sender lane and kind code as its header read (R132). -/
structure Discard where
  lane : Lane
  kind : BitVec 3
  deriving DecidableEq, Repr

/-- A completed frame in a receive slot or in the own-frame holder, with its place in line order (R133, R134). -/
structure StoredFrame where
  kind : FrameKind
  lane : Lane
  payload : List Byte
  order : Nat
  deriving DecidableEq, Repr

/-- The line transceiver (6.1). `idle` counts the line's idle time (R123); `atCheck` holds a frame complete in form on
its way from the assembler to the frame check (R126, R131). -/
structure Transceiver where
  receiver : Receiver := .waitingHigh
  idle : Nat := 0
  assembler : Assembler := .muted
  discards : List Discard := []
  atCheck : List RawFrame := []
  slot1 : Option StoredFrame := none
  slot2 : Option StoredFrame := none
  holder : Option StoredFrame := none
  nextOrder : Nat := 0
  deriving DecidableEq, Repr

/-! ## Line access unit -/

/-- The owner of a transmit queue entry, which also gives its kind (R138). `closedInquiry` is an INQUIRY left IN FLIGHT
after its inquiry closed (R91). A correction is named by its number beside its claim lane and claim sequence (log 32). -/
inductive Owner where
  | claim (tag : Byte)
  | inquiry (key : TitleKey)
  | closedInquiry
  | answer (inquirer : Lane) (key : TitleKey)
  | correction (claimLane : Lane) (claimSeq : Byte) (number : Nat)
  | greeting
  deriving DecidableEq, Repr

/-- One transmit queue entry (R138). -/
structure TxEntry where
  owner : Owner
  place : Nat
  attempts : Nat := 0
  noRetry : Bool := false
  inFlight : Bool := false
  deriving DecidableEq, Repr

/-- R141. -/
inductive UnitState where
  | quiet | deferring | sending | jamming
  deriving DecidableEq, Repr

/-- The frame in transmission, check characters left out (R124). -/
structure Flight where
  kind : FrameKind
  payload : List Byte
  deriving DecidableEq, Repr

/-- The line access unit with the character transmitter (6.2, 7.1). `readback` counts the characters of the frame read
back, `readbackFault` says that one collided (R145). `wave` holds the bits the transmitter sends from the boundary at
which its attempt began, a jam's among them, `txElapsed` the time since that boundary and `jamLeft` the time to the end of
the jam (R118, R124). -/
structure LineAccess where
  queue : List TxEntry := []
  yield : Bool := false
  unit : UnitState := .quiet
  flight : Option Flight := none
  readback : Nat := 0
  readbackFault : Bool := false
  wave : List Bool := []
  txElapsed : Nat := 0
  jamLeft : Nat := 0
  placements : Nat := 0
  deriving DecidableEq, Repr

/-! ## Watch scanner -/

/-- One watch entry (R153); `part = none` is ANY. -/
structure WatchEntry where
  valid : Bool := false
  digits : List (BitVec 4) := List.replicate 13 0
  part : Option (BitVec 16) := some 0
  events : BitVec 4 := 0
  divert : Bool := false
  endOfList : Bool := false
  hits : Nat := 0
  deriving DecidableEq, Repr

/-! ## Condition unit and attention controller -/

/-- R165. -/
inductive Source where
  | ownItem (tag : Byte) | line (lane : Lane) | port | station
  deriving DecidableEq, Repr

/-- A title key as the lane port shows it: 13 characters and a part number (R196). -/
structure PortKey where
  chars : List Byte
  part : BitVec 16
  deriving DecidableEq, Repr

/-- One detail record (R165). -/
structure Detail where
  condition : Condition
  source : Source
  title : Option PortKey := none
  value : Option Nat := none
  event : Option WatchEvent := none
  again : Bool := false
  deriving DecidableEq, Repr

/-- The condition unit (9.1) and the two pins the attention controller drives. Detail record of rank `k` at index
`k - 1`. -/
structure ConditionUnit where
  recorded : CondSet := 0
  deferred : CondSet := 0
  pending : CondSet := 0
  inService : CondSet := 0
  details : List (Option Detail) := List.replicate 16 none
  mask : CondSet := 0x001F
  routing : CondSet := 0
  autoEnd : Bool := false
  attn : Bool := false
  stop : Bool := false
  deriving DecidableEq, Repr

/-! ## Lane port -/

/-- A request record: kind byte, length byte, and the payload as far as it is stored (R190). -/
structure Request where
  kind : Byte
  length : Byte
  payload : List Byte
  deriving DecidableEq, Repr

/-- The request assembler (R190). `assembling` holds the kind byte, the length byte once it has come, the payload
stored, and how many payload characters have come. -/
inductive RequestAssembler where
  | idle
  | assembling (kind : Byte) (length : Option Byte) (payload : List Byte) (received : Nat)
  | muted
  deriving DecidableEq, Repr

/-- A record of the output stream: a reply (kind byte 240) or a DISPOSITION record (kind byte 241) (11.5.3). -/
structure OutRecord where
  kind : Byte
  payload : List Byte
  deriving DecidableEq, Repr

/-- The lane port interface (11.1 to 11.4). `complete` holds a complete record on its way to the input buffer,
`clearing` says that the CLEAR WORK at the head is in handling with its reply still to come (R192). -/
structure LanePort where
  assembler : RequestAssembler := .idle
  gap : Nat := 0
  complete : List Request := []
  buffer : List Request := []
  clearing : Bool := false
  output : List OutRecord := []
  outElapsed : Nat := 0
  deriving DecidableEq, Repr

/-! ## The whole -/

/-- The model's clock: reference periods since the last 1 ms tick and since the last boundary of a dock line bit time. -/
structure Clock where
  msPhase : Nat := 0
  bitPhase : Nat := 0
  deriving DecidableEq, Repr

/-- The state of the DL-42, with the queue of waiting commands. `draws` counts the free values drawn. -/
structure State where
  station : Station := {}
  tally : Tally := {}
  arrival : Arrival := {}
  claim : ClaimSequencer := {}
  inquiry : InquiryUnit := {}
  rules : Rules := {}
  line : Transceiver := {}
  access : LineAccess := {}
  watch : List WatchEntry := List.replicate 16 {}
  cond : ConditionUnit := {}
  port : LanePort := {}
  clock : Clock := {}
  draws : Nat := 0
  pending : List Instr := []
  deriving DecidableEq, Repr

/-- The station right after a rising edge of POWER GOOD with lane 1, rate 0 and the lane role strapped (log 3), every
block at its POWER GOOD value (R181). -/
def State.reset : State := {}

/-- What stops the machine. The block has no such fault: a parity error or a duplicated lane moves the station to
HALTED, which is a state (R185). Closed, with no constructor, so that no command can end in one. -/
inductive Fault where
  deriving DecidableEq, Repr

/-- Why a command was refused by the model. -/
inductive Refusal where
  /-- A command that has no meaning in the model yet; raised by `exec`'s own arm alone. Safe: the model stops. -/
  | notModelled (mnemonic : String)
  deriving DecidableEq, Repr

/-! ## One named update per block -/

def State.setStation (s : State) (x : Station) : State := { s with station := x }
def State.setTally (s : State) (x : Tally) : State := { s with tally := x }
def State.setArrival (s : State) (x : Arrival) : State := { s with arrival := x }
def State.setClaim (s : State) (x : ClaimSequencer) : State := { s with claim := x }
def State.setInquiry (s : State) (x : InquiryUnit) : State := { s with inquiry := x }
def State.setRules (s : State) (x : Rules) : State := { s with rules := x }
def State.setLine (s : State) (x : Transceiver) : State := { s with line := x }
def State.setAccess (s : State) (x : LineAccess) : State := { s with access := x }
def State.setWatch (s : State) (x : List WatchEntry) : State := { s with watch := x }
def State.setCond (s : State) (x : ConditionUnit) : State := { s with cond := x }
def State.setPort (s : State) (x : LanePort) : State := { s with port := x }
def State.setClock (s : State) (x : Clock) : State := { s with clock := x }
def State.setDraws (s : State) (x : Nat) : State := { s with draws := x }
def State.setPending (s : State) (x : List Instr) : State := { s with pending := x }

end Sys2Proof.Machine
end

