-- ==== Sys2Proof/Machine/Flags.lean ====
section
/-! DEFINITION. The condition flags: ranks, classes, the action of an occurrence, what it does to the four sets and to the
detail record, and the two pins that follow from the sets (chapter 9). -/

namespace Sys2Proof.Machine

/-- The 16 conditions in rank order (R163). -/
def Condition.all : List Condition :=
  [.tallyMemoryFault, .duplicateLane, .lineContention, .deadline, .lateCorrection, .massMismatch, .watchMatch, .tallyGap,
   .lineOverrun, .transmitBacklog, .lineCheck, .lineNoise, .peerRestart, .correctedOrdinal, .identifierFault, .portOverrun]

/-- The rank less one: the condition's bit in a condition set and its place among the detail records (R163, 11.5.2). -/
def Condition.index : Condition → Nat
  | .tallyMemoryFault => 0
  | .duplicateLane => 1
  | .lineContention => 2
  | .deadline => 3
  | .lateCorrection => 4
  | .massMismatch => 5
  | .watchMatch => 6
  | .tallyGap => 7
  | .lineOverrun => 8
  | .transmitBacklog => 9
  | .lineCheck => 10
  | .lineNoise => 11
  | .peerRestart => 12
  | .correctedOrdinal => 13
  | .identifierFault => 14
  | .portOverrun => 15

/-- The rank, which is the condition's code in requests and replies (R163). -/
def Condition.rank (c : Condition) : Nat := c.index + 1

/-- The condition with a code of 1 to 16. -/
def conditionOfCode (n : Nat) : Option Condition := Condition.all.find? (fun c => c.rank == n)

/-- The set that holds one condition. -/
def Condition.bit (c : Condition) : CondSet := BitVec.twoPow 16 c.index

/-- Whether a condition set holds a condition. -/
def has (cs : CondSet) (c : Condition) : Bool := cs.getLsbD c.index

/-- A set with one condition added. -/
def addTo (cs : CondSet) (c : Condition) : CondSet := cs ||| c.bit

/-- A set with one condition taken out. -/
def takeFrom (cs : CondSet) (c : Condition) : CondSet := cs &&& ~~~c.bit

/-- The highest-ranked condition of a set: the one with the smallest rank number (R163). -/
def highest (cs : CondSet) : Option Condition := Condition.all.find? (has cs)

/-- R163. -/
inductive CondClass where
  | halt | urgent | routine
  deriving DecidableEq, Repr

/-- The class of each condition (R163). -/
def Condition.cls : Condition → CondClass
  | .tallyMemoryFault | .duplicateLane => .halt
  | .lineContention | .deadline | .lateCorrection => .urgent
  | .massMismatch | .watchMatch | .tallyGap | .lineOverrun | .transmitBacklog | .lineCheck | .lineNoise | .peerRestart
  | .correctedOrdinal | .identifierFault | .portOverrun => .routine

/-- R166. -/
inductive Action where
  | record | defer | notify | halt
  deriving DecidableEq, Repr

/-- The action of an occurrence, from the condition's class, its mask entry, the station state and whether the arrival
queue holds a record (R166). -/
def occurrenceAction (c : Condition) (enabled : Bool) (st : StationState) (queueHolds : Bool) : Action :=
  match c.cls with
  | .halt => .halt
  | .urgent => if enabled then .notify else .record
  | .routine =>
    if enabled then
      if st == .run && queueHolds then .defer else .notify
    else .record

/-- A fresh detail is latched, with the again flag no (R168). -/
def ConditionUnit.latch (u : ConditionUnit) (c : Condition) (d : Detail) : ConditionUnit :=
  { u with details := u.details.set c.index (some { d with condition := c, again := false }) }

/-- The again flag of the detail is set as it stands (R168). -/
def ConditionUnit.setAgain (u : ConditionUnit) (c : Condition) : ConditionUnit :=
  { u with details := u.details.modify c.index (Option.map fun d => { d with again := true }) }

/-- The condition becomes pending with a fresh detail (R168). -/
def ConditionUnit.makePending (u : ConditionUnit) (c : Condition) (d : Detail) : ConditionUnit :=
  { u with pending := addTo u.pending c }.latch c d

/-- The condition becomes deferred with a fresh detail (R168). -/
def ConditionUnit.makeDeferred (u : ConditionUnit) (c : Condition) (d : Detail) : ConditionUnit :=
  { u with deferred := addTo u.deferred c }.latch c d

/-- The rows of R168's table, on the flags the occurrence finds. -/
def ConditionUnit.takeAction (u : ConditionUnit) (c : Condition) (d : Detail) (a : Action) : ConditionUnit :=
  if has u.deferred c || has u.pending c then u.setAgain c
  else if has u.inService c then
    match a with
    | .record => u.setAgain c
    | .defer | .notify | .halt => u.makePending c d
  else
    match a with
    | .record => if has u.recorded c then u.setAgain c else u.latch c d
    | .defer => u.makeDeferred c d
    | .notify | .halt => u.makePending c d

/-- An occurrence: the recorded flag is set in every case, and the rest follows R168. -/
def ConditionUnit.occurrence (u : ConditionUnit) (c : Condition) (d : Detail) (a : Action) : ConditionUnit :=
  { u.takeAction c d a with recorded := addTo u.recorded c }

/-- Every deferred condition leaves the deferred set and becomes pending (R167). -/
def ConditionUnit.releaseDeferred (u : ConditionUnit) : ConditionUnit :=
  { u with pending := u.pending ||| u.deferred, deferred := 0 }

/-- The four sets clear, details and configuration kept (R180, CLEAR WORK). -/
def ConditionUnit.clearSets (u : ConditionUnit) : ConditionUnit :=
  { u with recorded := 0, deferred := 0, pending := 0, inService := 0 }

/-- ATTN as R171 gives it: the pending set holds a condition ranked above every condition in service. With automatic end
on and a condition still in service, R174's shorter words would assert it for every pending condition; the model follows
R171 (DESIGN CHOICE, log 36). -/
def attnLevel (st : Station) (u : ConditionUnit) : Bool :=
  st.powerGood && st.state != .strapFault &&
    match highest u.pending, highest u.inService with
    | some p, some q => decide (p.rank < q.rank)
    | some _, none => true
    | none, _ => false

/-- STOP as R175 gives it: the station is HALTED, or a routed condition is pending or in service. -/
def stopLevel (st : Station) (u : ConditionUnit) : Bool :=
  st.powerGood && st.state != .strapFault &&
    (st.state == .halted || (u.routing &&& (u.pending ||| u.inService)) != 0)

/-- The attention controller drives the two pins from the sets and the station state (R171, R175). -/
def ConditionUnit.drive (u : ConditionUnit) (st : Station) : ConditionUnit :=
  { u with attn := attnLevel st u, stop := stopLevel st u }

end Sys2Proof.Machine
end

