-- ==== Sys2Proof/Machine/Signalling.lean ====
section
/-! DEFINITION. Dock line signalling: the bits of a character, the line rate, the majority sampling of a character, and
the 16-bit frame check (chapter 6). -/

namespace Sys2Proof.Machine

/-- Nominal dock line rate of a rate strap, in bit/s (R119). -/
def nominalRate (rate : BitVec 2) : Nat := 115200 * 2 ^ rate.toNat

/-- The divisor in sixteenths of a reference period per sample, 24 000 000 / (16 × rate) rounded to the nearest
sixteenth, which is also the number of reference periods of one bit time (R119). -/
def bitPeriods (rate : BitVec 2) : Nat := (24000000 + nominalRate rate / 2) / nominalRate rate

/-! ## The sample intervals -/

/-- Whether sample interval `k` of a bit time, counted from 0, is one of the longer ones: as many are as the divisor has
sixteenths (R119); which ones is a free choice (log 42). -/
def longInterval (rate : BitVec 2) (k : Nat) : Bool :=
  let rank := Config.intervalRank rate
  let earlier := (List.range 16).countP fun j => decide (rank j < rank k) || (rank j == rank k && decide (j < k))
  decide (earlier < bitPeriods rate % 16)

/-- Reference periods of sample interval `k` of a bit time: the whole part of the divisor, and one more in a longer interval
(R119). -/
def sampleInterval (rate : BitVec 2) (k : Nat) : Nat := bitPeriods rate / 16 + (longInterval rate k).toNat

/-- Reference periods from the start of sample 0 to that of sample `n`, 16 samples to each bit time (R119). -/
def sampleTime (rate : BitVec 2) (n : Nat) : Nat :=
  n / 16 * bitPeriods rate + ((List.range (n % 16)).map (sampleInterval rate)).sum

/-- The first `count` samples that a receiver takes of a line from reference period `start` on (R119). The lane port's
receiver samples as one at rate strap 1 does (R189, R190). -/
def sampleLine (rate : BitVec 2) (level : Nat → Bool) (start count : Nat) : List Bool :=
  (List.range count).map fun n => level (start + sampleTime rate n)

/-! ## Characters -/

/-- The eleven bits of a dock line character: start 0, data least significant first, mark, stop 1 (R118). -/
def characterBits (data : Byte) (mark : Bool) : List Bool :=
  false :: (List.range 8).map data.getLsbD ++ [mark, true]

/-- The ten bits of a lane port character (R189). -/
def portCharacterBits (data : Byte) : List Bool :=
  false :: (List.range 8).map data.getLsbD ++ [true]

/-- The line level of a run of bits, 16 samples to each bit time (R120). -/
def samplesOf (bits : List Bool) : List Bool := bits.flatMap (List.replicate 16)

/-- The majority of three samples (R120). -/
def majority (a b c : Bool) : Bool := (a && b) || (a && c) || (b && c)

/-- Samples 7, 8 and 9 of bit time `k`, samples counted from 1 (R120, R121). -/
def bitSamples (samples : List Bool) (k : Nat) : Bool × Bool × Bool :=
  (samples.getD (16 * k + 6) true, samples.getD (16 * k + 7) true, samples.getD (16 * k + 8) true)

/-- The value of bit time `k` (R121). -/
def bitValue (samples : List Bool) (k : Nat) : Bool :=
  let (a, b, c) := bitSamples samples k
  majority a b c

/-- Whether the three samples of bit time `k` disagree (R121). -/
def bitNoisy (samples : List Bool) (k : Nat) : Bool :=
  let (a, b, c) := bitSamples samples k
  !(a == b && b == c)

/-- The first sample, counted from `k`, that reads high: with the two before it, three consecutive samples of 1 (R120). -/
def readsHighFrom (samples : List Bool) : Nat → Nat → Option Nat
  | 0, _ => none
  | fuel + 1, k =>
    if samples.getD (k - 2) false && samples.getD (k - 1) false && samples.getD k false then some k
    else readsHighFrom samples fuel (k + 1)

/-- What the character receiver makes of the samples that follow a falling edge, the edge being the first (R120 to
R122). -/
inductive Reception where
  | falseStart
  | character (data : Byte) (mark noisy : Bool)
  | framingError
  | lineBreak
  deriving DecidableEq, Repr

/-- A byte from its bits, least significant first. -/
def byteOfBits : List Bool → Nat
  | [] => 0
  | b :: bs => b.toNat + 2 * byteOfBits bs

/-- The character receiver on the samples from a falling edge on (R120 to R122): a start bit not validated is a false
start; a stop bit of 1 completes the character; after a stop bit of 0 the line either reads high within 13 bit times of
the start (framing error) or has not (break). The 208th sample, the start's being the first, is the last within them (DESIGN
CHOICE, log 41). -/
def receive (samples : List Bool) : Reception :=
  if bitValue samples 0 then .falseStart
  else if bitValue samples 10 then
    .character (byteOf (byteOfBits ((List.range 8).map fun k => bitValue samples (k + 1)))) (bitValue samples 9)
      ((List.range 11).any (bitNoisy samples))
  else
    match readsHighFrom samples (16 * 13 - 169) 169 with
    | some _ => .framingError
    | none => .lineBreak

/-- The line command that a reception is (log 18); a false start is reported to nobody (R120). -/
def Reception.command : Reception → Option Instr
  | .falseStart => none
  | .character d true n => some (.headerReceived d n)
  | .character d false n => some (.payloadCharacterReceived d n)
  | .framingError => some .dockFramingError
  | .lineBreak => some .lineBreak

/-- One bit into the check register: compared with the register's top bit, shifted, and bits 12, 5 and 0 inverted where
they differ (R130). -/
def checkBit (reg : BitVec 16) (b : Bool) : BitVec 16 :=
  let shifted := reg <<< 1
  if reg.getLsbD 15 == b then shifted else shifted ^^^ 0x1021

/-- One byte into the check register, least significant bit first (R130). -/
def checkByte (reg : BitVec 16) (d : Byte) : BitVec 16 :=
  ((List.range 8).map d.getLsbD).foldl checkBit reg

/-- The frame check over a header and payload (R130). -/
def frameCheck (bytes : List Byte) : BitVec 16 := bytes.foldl checkByte 0xFFFF

/-- The two check characters, low 8 bits first (R130). -/
def checkCharacters (bytes : List Byte) : List Byte :=
  let v := frameCheck bytes
  [v.extractLsb' 0 8, v.extractLsb' 8 8]

/-- Whether a frame complete in form passes: its last two characters are the check characters of all before (R130). -/
def passesCheck (f : RawFrame) : Bool :=
  let all := f.header :: f.chars
  let body := all.take (all.length - 2)
  all.drop (all.length - 2) == checkCharacters body

/-- The kind code of a frame kind (R125). -/
def FrameKind.code : FrameKind → Nat
  | .greeting => 1
  | .claim => 2
  | .correction => 3
  | .inquiry => 4
  | .answer => 5

/-- The frame kind of a kind code; 0, 6 and 7 are invalid (R125). -/
def kindOfCode (k : BitVec 3) : Option FrameKind :=
  match k.toNat with
  | 1 => some .greeting
  | 2 => some .claim
  | 3 => some .correction
  | 4 => some .inquiry
  | 5 => some .answer
  | _ => none

/-- Payload characters of a kind (R125). -/
def FrameKind.payloadLength : FrameKind → Nat
  | .greeting => 2
  | .inquiry => 9
  | .claim | .correction | .answer => 13

/-- Characters of a frame: header, payload and two check characters (R125). -/
def FrameKind.frameLength (k : FrameKind) : Nat := k.payloadLength + 3

/-- The kind is the upper 3 bits of a header (R125). -/
def headerKind (h : Byte) : BitVec 3 := h.extractLsb' 5 3

/-- The sender lane is the lower 5 bits of a header (R125). -/
def headerLane (h : Byte) : Lane := h.extractLsb' 0 5

/-- The header byte of a frame, kind × 32 + lane (11.5.1). -/
def headerByte (k : FrameKind) (l : Lane) : Byte := byteOf (k.code * 32 + l.toNat)

/-- Every data byte of an own frame as sent: header, payload, check characters (R118, R124). -/
def frameBytes (k : FrameKind) (l : Lane) (payload : List Byte) : List Byte :=
  let body := headerByte k l :: payload
  body ++ checkCharacters body

/-! ## The transmitter -/

/-- The bits of characters sent back to back, the first with mark bit 1 and every later one with mark bit 0 (R118,
R124). -/
def sentBits : List Byte → List Bool
  | [] => []
  | head :: tail => characterBits head true ++ tail.flatMap fun d => characterBits d false

/-- The bits of an own frame from the boundary at which its attempt begins (R124). -/
def frameBits (k : FrameKind) (l : Lane) (payload : List Byte) : List Bool := sentBits (frameBytes k l payload)

/-- The line during a jam: 14 bit times low, 2 released (R124). -/
def jamLevels : List Bool := List.replicate 14 false ++ List.replicate 2 true

/-- How many bit times of `wave` still stand where a jam is commanded `elapsed` periods after its first boundary: those to
the end of the character in progress. After the last character none is in progress, and the jam begins at the next
boundary (R119, R124, log 19). -/
def bitsBeforeJam (rate : BitVec 2) (wave : List Bool) (elapsed : Nat) : Nat :=
  let bit := bitPeriods rate
  let character := elapsed / (Config.dockCharBits * bit)
  if Config.dockCharBits * character < wave.length then Config.dockCharBits * (character + 1) else (elapsed + bit - 1) / bit

/-- The bits from the attempt's first boundary on, once a jam is commanded (R124). -/
def jammedWave (rate : BitVec 2) (wave : List Bool) (elapsed : Nat) : List Bool :=
  (List.range (bitsBeforeJam rate wave elapsed)).map (fun i => wave.getD i true) ++ jamLevels

/-- The level of a line at a time into a wave; it is released, or held at the level of a stop bit, where the wave has
ended (R118, R124, R189). -/
def levelAt (bit : Nat) (wave : List Bool) (elapsed : Nat) : Bool := wave.getD (elapsed / bit) true

end Sys2Proof.Machine
end

