-- ==== Sys2Proof/Machine/Operands.lean ====
section
/-! DEFINITION. The operand forms: the byte layouts of requests, replies, DISPOSITION records and frames (11.5), the form
of a request (R191), and how a field is read (R9, R31, R196). -/

namespace Sys2Proof.Machine

/-! ## Numbers and keys -/

/-- Byte `i` of a payload. -/
def byteAt (bs : List Byte) (i : Nat) : Byte := bs.getD i 0

/-- The number in byte `i`. -/
def natAt (bs : List Byte) (i : Nat) : Nat := (byteAt bs i).toNat

/-- The two-byte number from byte `i` on, low byte first (R196). -/
def wordAt (bs : List Byte) (i : Nat) : BitVec 16 := byteAt bs (i + 1) ++ byteAt bs i

/-- The three-byte number from byte `i` on, low byte first (R196). -/
def tripleAt (bs : List Byte) (i : Nat) : Nat := natAt bs i + 256 * natAt bs (i + 1) + 65536 * natAt bs (i + 2)

/-- The decimal digits of a lane port identifier are the byte values 48 to 57 (R196). -/
def isDigitChar (c : Byte) : Bool := decide (48 ≤ c.toNat) && decide (c.toNat ≤ 57)

/-- The digit a digit character stands for: its low nibble, since '0' is 48. -/
def digitOfChar (c : Byte) : BitVec 4 := c.extractLsb' 0 4

/-- The character that stands for a digit of a title key on the lane port (R196); for a digit above 9 the spec gives
none, and the character is a free value (log 11). -/
def charOfDigit (d : BitVec 4) : Byte := if d.toNat ≤ 9 then byteOf (48 + d.toNat) else Config.nonDecimalChar d

/-- The title key of 13 digit characters and a part number. -/
def keyOfChars (chars : List Byte) (part : BitVec 16) : TitleKey := { digits := chars.map digitOfChar, part := part }

/-- A title key as the lane port shows it. -/
def portKey (k : TitleKey) : PortKey := { chars := k.digits.map charOfDigit, part := k.part }

/-- The 15 bytes of a title key on the lane port (R196). -/
def PortKey.bytes (k : PortKey) : List Byte := k.chars ++ wordBytes k.part.toNat

/-- Packed decimal: two digits a byte, the first in the upper nibble; the odd last digit's pad is 15 (R196). -/
def packDigits : List (BitVec 4) → List Byte
  | [] => []
  | [d] => [d ++ (15 : BitVec 4)]
  | d :: e :: rest => (d ++ e) :: packDigits rest

/-- The digits of packed decimal bytes, upper nibble first. -/
def unpackDigits : List Byte → List (BitVec 4)
  | [] => []
  | b :: bs => b.extractLsb' 4 4 :: b.extractLsb' 0 4 :: unpackDigits bs

/-- The 9 bytes of a title key on the dock line (R196). -/
def packKey (k : TitleKey) : List Byte := packDigits k.digits ++ wordBytes k.part.toNat

/-- The title key from byte `i` of a frame's payload on; the pad nibble is not examined (R196). -/
def keyAt (bs : List Byte) (i : Nat) : TitleKey :=
  { digits := (unpackDigits ((bs.drop i).take 7)).take 13, part := wordAt bs (i + 7) }

/-! ## Frames -/

/-- A basis, count or correction value of 64 to 255 is read as 63 (R9). -/
def readCount (b : Byte) : Nat := min b.toNat Config.maxCount

/-- A mass field of a frame is usable in 1 to 60000 and absent otherwise (R9). -/
def readFrameMass (w : BitVec 16) : Option Nat :=
  if 1 ≤ w.toNat ∧ w.toNat ≤ Config.maxMass then some w.toNat else none

/-- An absent mass is sent as 65535 (R196). -/
def massBytes (m : Option Nat) : List Byte := wordBytes (m.getD 65535)

/-- A GREETING's role byte reads OBSERVER when it is 1 and LANE for any other value (R196). -/
def readRole (b : Byte) : Role := if b == 1 then .observer else .lane

/-- The payload of a GREETING: sequence 0 and the role (R76, 11.5.1). The role byte of a station in the lane role is 0,
where R196 lets it be any value but 1 (DESIGN CHOICE, log 37). -/
def greetingPayload (observer : Bool) : List Byte := [0, flagByte observer]

/-- The payload of a CLAIM (11.5.1). -/
def claimPayload (seq : Byte) (k : TitleKey) (basis : Nat) (mass : Option Nat) : List Byte :=
  [seq] ++ packKey k ++ [byteOf basis] ++ massBytes mass

/-- The payload of a CORRECTION (11.5.1). -/
def correctionPayload (seq : Byte) (claimLane : Lane) (claimSeq : Byte) (k : TitleKey) (value : Nat) : List Byte :=
  [seq, byteOf claimLane.toNat, claimSeq] ++ packKey k ++ [byteOf value]

/-- The payload of an INQUIRY (11.5.1). -/
def inquiryPayload (k : TitleKey) : List Byte := packKey k

/-- The payload of an ANSWER (11.5.1). -/
def answerPayload (inquirer : Lane) (k : TitleKey) (count : Nat) (refMass : Option Nat) : List Byte :=
  [byteOf inquirer.toNat] ++ packKey k ++ [byteOf count] ++ massBytes refMass

/-- The fields of a CLAIM's payload (11.5.1), read as R9 states. -/
structure ClaimFields where
  seq : Byte
  key : TitleKey
  basis : Nat
  mass : Option Nat
  deriving DecidableEq, Repr

def readClaim (p : List Byte) : ClaimFields :=
  { seq := byteAt p 0, key := keyAt p 1, basis := readCount (byteAt p 10), mass := readFrameMass (wordAt p 11) }

/-- The fields of a CORRECTION's payload. The claim lane is a whole byte, as received. -/
structure CorrectionFields where
  seq : Byte
  claimLane : Byte
  claimSeq : Byte
  key : TitleKey
  value : Nat
  deriving DecidableEq, Repr

def readCorrection (p : List Byte) : CorrectionFields :=
  { seq := byteAt p 0, claimLane := byteAt p 1, claimSeq := byteAt p 2, key := keyAt p 3,
    value := readCount (byteAt p 12) }

/-- The fields of an ANSWER's payload. -/
structure AnswerFields where
  inquirer : Byte
  key : TitleKey
  count : Nat
  refMass : Option Nat
  deriving DecidableEq, Repr

def readAnswer (p : List Byte) : AnswerFields :=
  { inquirer := byteAt p 0, key := keyAt p 1, count := readCount (byteAt p 10), refMass := readFrameMass (wordAt p 11) }

/-- The title key of an INQUIRY's payload. -/
def readInquiry (p : List Byte) : TitleKey := keyAt p 0

/-- The title key a frame carries, where its kind carries one (R135, R147). -/
def frameKey : FrameKind → List Byte → Option TitleKey
  | .greeting, _ => none
  | .claim, p => some (keyAt p 1)
  | .correction, p => some (keyAt p 3)
  | .inquiry, p => some (keyAt p 0)
  | .answer, p => some (keyAt p 1)

/-- Whether a lane byte of a frame names a lane. -/
def namesLane (b : Byte) (l : Lane) : Bool := b.toNat == l.toNat

/-! ## Masses of items -/

/-- The mass intake of R31: 0 and 65535 are absent, above 60000 is clamped. -/
def massIntake (w : BitVec 16) : Mass :=
  if w.toNat = 0 ∨ w.toNat = 65535 then .absent
  else if w.toNat ≤ Config.maxMass then .usable w.toNat
  else .clamped

/-- The mass a CLAIM carries and the mass check reads: usable or absent (R31, R58). -/
def Mass.usableGrams : Mass → Option Nat
  | .usable g => some g
  | .clamped | .absent => none

/-- A mass as records report it: 60000 g if clamped, 65535 if absent (R50, R196). -/
def Mass.reportBytes : Mass → List Byte
  | .usable g => wordBytes g
  | .clamped => wordBytes Config.maxMass
  | .absent => wordBytes 65535

/-- The mass-clamped mark (R28). -/
def Mass.isClamped : Mass → Bool
  | .clamped => true
  | .usable _ | .absent => false

/-! ## Codes of 11.5.3 -/

def ResultCode.code : ResultCode → Byte
  | .done => 0
  | .doneClamped => 1
  | .none => 2
  | .refusedState => 3
  | .refusedFull => 4
  | .refusedForm => 5
  | .refusedRole => 6

def StationState.code : StationState → Byte
  | .strapFault => 0
  | .configuring => 1
  | .joining => 2
  | .run => 3
  | .paused => 4
  | .halted => 5

def Stage.code : Stage → Byte
  | .inquiring => 0
  | .queued => 1
  | .onLine => 2
  | .settling => 3
  | .decided => 4

def Disposition.code : Disposition → Byte
  | .preserve => 1
  | .stock => 2
  | .surplus => 3
  | .hold => 4
  | .reject => 5

/-- An absent disposition is sent as 0. -/
def dispositionCode : Option Disposition → Byte
  | none => 0
  | some d => d.code

def HoldReason.code : HoldReason → Byte
  | .none => 0
  | .mass => 1
  | .watch => 2
  | .deadline => 3
  | .contention => 4
  | .halted => 5
  | .cleared => 6

def MassCheck.code : MassCheck → Byte
  | .skipped => 0
  | .matched => 1
  | .mismatch => 2

def Certainty.code : Certainty → Byte
  | .unsure => 0
  | .certain => 1

def Role.code : Role → Byte
  | .unknown => 0
  | .lane => 1
  | .observer => 2

def Source.code : Source → Byte
  | .ownItem _ => 0
  | .line _ => 1
  | .port => 2
  | .station => 3

/-- The source number holds the item tag or the lane, and 0 for PORT and STATION (11.5.3). -/
def Source.number : Source → Byte
  | .ownItem t => t
  | .line l => byteOf l.toNat
  | .port => 0
  | .station => 0

/-- The bit of an event in an event mask (11.5.2). -/
def WatchEvent.index : WatchEvent → Nat
  | .presented => 0
  | .counted => 1
  | .completed => 2
  | .surplus => 3

/-- 0 absent, 1 PRESENTED, 2 COUNTED, 3 COMPLETED, 4 SURPLUS (11.5.3). -/
def watchEventCode : Option WatchEvent → Byte
  | none => 0
  | some e => byteOf (e.index + 1)

/-! ## Requests -/

/-- Which row of the table handles a request: by its kind byte, and for CONFIGURE by its selector (11.5.2). A request
that is no row's own, an unknown kind or a CONFIGURE without a known selector, goes to UNKNOWN_REQUEST (log 7). -/
inductive RequestRow where
  | unknown | present | configureTimes | configureClass | configureRange | configureMask | configureStopRouting
  | configureAutomaticEnd | commence | pause | resume | clearWork | loadWatchEntry | readEntry | readItem | readRoster
  | readStatus | readCondition | ackAttention | endAttention | clearConditions
  deriving DecidableEq, Repr

/-- The row of a CONFIGURE by its selector, where the record carries one (11.5.2). -/
def configureRow (payload : List Byte) : RequestRow :=
  match payload with
  | [] => .unknown
  | sel :: _ =>
    match sel.toNat with
    | 1 => .configureTimes
    | 2 => .configureClass
    | 3 => .configureRange
    | 4 => .configureMask
    | 5 => .configureStopRouting
    | 6 => .configureAutomaticEnd
    | _ => .unknown

def Request.row (r : Request) : RequestRow :=
  match r.kind.toNat with
  | 1 => .present
  | 2 => configureRow r.payload
  | 3 => .commence
  | 4 => .pause
  | 5 => .resume
  | 6 => .clearWork
  | 7 => .loadWatchEntry
  | 8 => .readEntry
  | 9 => .readItem
  | 10 => .readRoster
  | 11 => .readStatus
  | 12 => .readCondition
  | 13 => .ackAttention
  | 14 => .endAttention
  | 15 => .clearConditions
  | _ => .unknown

/-- The payload length of each row's request (11.5.2); UNKNOWN_REQUEST has none. -/
def RequestRow.length : RequestRow → Option Nat
  | .unknown => none
  | .present => some 17
  | .configureTimes | .configureClass => some 6
  | .configureRange => some 10
  | .configureMask | .configureStopRouting => some 4
  | .configureAutomaticEnd => some 3
  | .commence | .pause | .resume | .clearWork | .readStatus | .ackAttention => some 0
  | .loadWatchEntry => some 20
  | .readEntry => some 15
  | .readItem | .readRoster | .readCondition | .endAttention => some 1
  | .clearConditions => some 2

/-- The field checks of R191 beyond kind and length. -/
def Request.fieldsOk (r : Request) : Bool :=
  let p := r.payload
  match r.row with
  | .unknown => false
  | .configureTimes | .configureMask | .configureStopRouting | .configureAutomaticEnd => natAt p 1 == 0
  | .configureClass => decide (natAt p 1 ≤ 3)
  | .configureRange => decide (natAt p 1 ≤ 7)
  | .readRoster => decide (1 ≤ natAt p 0) && decide (natAt p 0 ≤ 31)
  | .readCondition => decide (1 ≤ natAt p 0) && decide (natAt p 0 ≤ 16)
  | .endAttention => decide (natAt p 0 ≤ 16)
  | .loadWatchEntry =>
    decide (natAt p 0 ≤ 15) && ((p.drop 2).take 13).all isDigitChar &&
      (decide ((wordAt p 15).toNat ≤ 9999) || wordAt p 15 == 65535)
  | .present | .commence | .pause | .resume | .clearWork | .readEntry | .readItem | .readStatus | .ackAttention
  | .clearConditions => true

/-- The form of a request, judged before its state (R191). -/
def Request.formOk (r : Request) : Bool := r.row.length == some r.length.toNat && r.fieldsOk

/-! ## Output records -/

/-- A reply: kind byte 240, the request's kind byte, the result code, and what follows it (11.5.3). -/
def replyRecord (r : Request) (res : ResultCode) (content : List Byte) : OutRecord :=
  { kind := 240, payload := [r.kind, res.code] ++ content }

/-- A DISPOSITION record's 27 bytes of payload, from the item record at release (R50, 11.5.3). -/
def dispositionRecord (it : Item) : OutRecord :=
  { kind := 241,
    payload := [it.tag] ++ it.chars ++ wordBytes it.part.toNat ++ it.mass.reportBytes ++
      [byteOf it.cls, dispositionCode it.disposition, flagByte it.completed, byteOf (it.ordinal.getD 0), it.reason.code,
       it.massCheck.code, flagByte it.mass.isClamped, flagByte it.corrected, 0] }

def OutRecord.isReply (o : OutRecord) : Bool := o.kind == 240
def OutRecord.isDisposition (o : OutRecord) : Bool := o.kind == 241

/-- Unsent replies and DISPOSITION records of an output stream (R194). -/
def replyCount (out : List OutRecord) : Nat := out.countP OutRecord.isReply
def dispositionCount (out : List OutRecord) : Nat := out.countP OutRecord.isDisposition

/-- The characters of an output record as sent: kind byte, length byte and payload (11.1). -/
def OutRecord.bytes (o : OutRecord) : List Byte := o.kind :: byteOf o.payload.length :: o.payload

/-- How many characters an output record has (11.1). -/
def OutRecord.characters (o : OutRecord) : Nat := o.payload.length + 2

/-- The bits of an output record, its characters back to back (R189, R194). -/
def OutRecord.bits (o : OutRecord) : List Bool := o.bytes.flatMap portCharacterBits

/-- The content of a READ ENTRY reply (11.5.3), for the entry at recency position `position`. -/
def entryContent (e : Entry) (position : Nat) : List Byte :=
  [byteOf e.count] ++ massBytes e.refMass ++
    [e.certainty.code, byteOf ((e.lastClaim.map fun c => c.1.toNat).getD 0), (e.lastClaim.map fun c => c.2).getD 0,
     byteOf e.pins] ++ wordBytes position

/-- The content of a READ ITEM reply (11.5.3). -/
def itemContent (it : Item) : List Byte :=
  [it.tag] ++ it.chars ++ wordBytes it.part.toNat ++ it.mass.reportBytes ++
    [flagByte it.mass.isClamped, byteOf it.cls, it.stage.code, flagByte it.completed, byteOf (it.ordinal.getD 0),
     flagByte it.claimSeq.isSome, it.claimSeq.getD 0] ++ wordBytes it.deadline ++
    [it.massCheck.code, flagByte it.corrected, byteOf (it.watchMatch.getD 255), dispositionCode it.disposition,
     it.reason.code]

/-- The content of a LOAD WATCH ENTRY reply: the entry in request order, then its hits (11.5.3). -/
def watchContent (index : Byte) (w : WatchEntry) : List Byte :=
  [index, flagByte w.valid] ++ w.digits.map charOfDigit ++ wordBytes ((w.part.map BitVec.toNat).getD 65535) ++
    [byteOf w.events.toNat, flagByte w.divert, flagByte w.endOfList, byteOf w.hits]

/-- The flags byte of a condition: recorded bit 0, deferred bit 1, pending bit 2, in service bit 3 (11.5.3). -/
def flagsByte (u : ConditionUnit) (c : Condition) : Byte :=
  byteOf ((has u.recorded c).toNat + 2 * (has u.deferred c).toNat + 4 * (has u.pending c).toNat +
    8 * (has u.inService c).toNat)

/-- The content of a READ CONDITION or ACK ATTENTION reply (11.5.3). Where the title key or the value is absent, the
bytes that stand in its field are open and are given by `free` (log 10). -/
def detailContent (free : Nat → Byte) (flags : Byte) (d : Detail) : List Byte :=
  [byteOf d.condition.rank, flags, d.source.code, d.source.number, flagByte d.title.isSome] ++
    (match d.title with
      | some k => k.bytes
      | none => (List.range 15).map free) ++
    [flagByte d.value.isSome,
      match d.value with
      | some v => byteOf v
      | none => free 15,
      watchEventCode d.event, flagByte d.again]

end Sys2Proof.Machine
end

