-- ==== Sys2Proof/Machine/RuleUnit.lean ====
section
/-! DEFINITION. The answers of the rule unit: class of a title, pretest, mass tolerance band, disposition of an ordinal,
full requirement, and the clamping of configured values (chapter 5). They change no state. -/

namespace Sys2Proof.Machine

/-- The number of a run of decimal digits; none if one is above 9. -/
def decimalValue (ds : List (BitVec 4)) : Option Nat :=
  if ds.all (fun d => decide (d.toNat ≤ 9)) then some (ds.foldl (fun acc d => 10 * acc + d.toNat) 0) else none

/-- A range matches a publisher number when it is enabled and low ≤ x ≤ high (R105). -/
def PublisherRange.covers (g : PublisherRange) (x : Nat) : Bool := g.enable && decide (g.low ≤ x) && decide (x ≤ g.high)

/-- The class of a publisher number: that of the first range that matches, 0 if none does (R106). -/
def Rules.classOfPublisher (r : Rules) : Option Nat → Nat
  | none => 0
  | some x => ((r.ranges.find? fun g => g.covers x).map PublisherRange.cls).getD 0

/-- The class of a title key, from its first five digits (R106). A frame's key with a digit above 9 behind the fifth
keeps that class: R106 looks at the first five characters alone, where its last paragraph speaks of the whole identifier
(DESIGN CHOICE, log 33). -/
def Rules.classOfKey (r : Rules) (k : TitleKey) : Nat := r.classOfPublisher (decimalValue (k.digits.take 5))

/-- The class of an item, from the first five characters of its identifier as received (R32, R106). -/
def Rules.classOfChars (r : Rules) (chars : List Byte) : Nat :=
  r.classOfPublisher (if (chars.take 5).all isDigitChar then decimalValue ((chars.take 5).map digitOfChar) else none)

/-- The values of a rule class. -/
def Rules.classAt (r : Rules) (k : Nat) : RuleClass := r.classes.getD k {}

/-- The full requirement p + s of a class (R104). -/
def RuleClass.full (c : RuleClass) : Nat := c.p + c.s

/-- The full requirement of a title's class under the configuration in force (R113). -/
def Rules.fullOfKey (r : Rules) (k : TitleKey) : Nat := (r.classAt (r.classOfKey k)).full

/-- The check digit of twelve digits: weights 3, 7, 9 from the left, (10 − S mod 10) mod 10 (R108). -/
def checkDigit (ds : List Nat) : Nat :=
  let sum := (List.zipWith (· * ·) (ds.take 12) [3, 7, 9, 3, 7, 9, 3, 7, 9, 3, 7, 9]).sum
  (10 - sum % 10) % 10

/-- The pretest of R107 and R108: thirteen digit characters, a part number of at most 9999, and the right check digit. -/
def pretest (chars : List Byte) (part : BitVec 16) : Bool :=
  chars.all isDigitChar && decide (part.toNat ≤ 9999) &&
    ((chars.map fun c => c.toNat - 48).getD 12 0 == checkDigit (chars.map fun c => c.toNat - 48))

/-- The mass tolerance band, max(f, ⌊(ref × r + 512) / 1024⌋) (R109). -/
def massBand (c : RuleClass) (ref : Nat) : Nat := max c.f ((ref * c.r + 512) / 1024)

/-- |m − ref| ≤ band (R110). -/
def withinBand (m ref band : Nat) : Bool := decide ((m - ref) + (ref - m) ≤ band)

/-- The mass check of a first build: made when the count is 1 or more, the reference mass present and the item's mass
usable; SKIPPED otherwise (R110). -/
def massCheck (c : RuleClass) (count : Nat) (ref : Option Nat) (mass : Mass) : MassCheck :=
  match ref, mass.usableGrams with
  | some r, some m => if 1 ≤ count then (if withinBand m r (massBand c r) then .matched else .mismatch) else .skipped
  | _, _ => .skipped

/-- The disposition of an ordinal under a class (R111). -/
def dispositionOf (c : RuleClass) (ordinal : Nat) : Disposition :=
  if ordinal ≤ c.p then .preserve else if ordinal ≤ c.p + c.s then .stock else .surplus

/-- A value clamped to the nearest limit of its range (R103). -/
def clampTo (low high v : Nat) : Nat := if v < low then low else if high < v then high else v

/-- The class values a CONFIGURE CLASS stores (R103). -/
def clampClass (p s r f : Nat) : RuleClass := { p := clampTo 1 2 p, s := clampTo 0 6 s, r := r, f := f }

/-- The range values a CONFIGURE RANGE stores (R103). -/
def clampRange (enable : Bool) (low high cls : Nat) : PublisherRange :=
  { enable := enable, low := clampTo 0 99999 low, high := clampTo 0 99999 high, cls := clampTo 0 3 cls }

/-- The deferral of a candidate in bit times: base, yield and backoff terms (R142). -/
def deferral (lane : Lane) (yield : Bool) (attempts : Nat) : Nat :=
  24 + 2 * lane.toNat + (if yield then 64 else 0) +
    (if attempts = 0 then 0 else 16 * ((lane.toNat + 7 * attempts) % 31 + 1))

/-- The hold-off of an answer or correction: lane × 250 µs, in reference periods (R68, R94). -/
def holdOffPeriods (lane : Lane) : Nat := lane.toNat * Config.periodsPerHoldOff

end Sys2Proof.Machine
end

