-- ==== Sys2Proof/Machine/TallyTable.lean ====
section
/-! DEFINITION. The tally table: finding, touching, pinning, eviction and creation, and the count arithmetic of CLAIM,
CORRECTION and ANSWER (chapter 1). A table stands in recency order, most recently touched first. An operation that reads
entries answers the key of an entry that met a parity error instead of its result (R3). -/

namespace Sys2Proof.Machine

/-- The entry of a title, found by comparing title keys (R1). -/
def findEntry (t : List Entry) (k : TitleKey) : Option Entry := t.find? fun e => e.key == k

/-- The table without a title's entry; the entries below it move up (R2). -/
def dropEntry (t : List Entry) (k : TitleKey) : List Entry := t.filter fun e => e.key != k

/-- An entry with its changed fields at recency position 1; those that stood before it move down (R2). -/
def putFirst (t : List Entry) (e : Entry) : List Entry := e :: dropEntry t e.key

/-- The fields of a title's entry changed in place, without a touch (R2: a pin, an unpin). -/
def changeEntry (t : List Entry) (k : TitleKey) (f : Entry → Entry) : List Entry :=
  t.map fun e => if e.key == k then f e else e

/-- The recency position of a title's entry, counted from 1 (R1). -/
def recencyOf (t : List Entry) (k : TitleKey) : Nat := t.findIdx (fun e => e.key == k) + 1

/-- What an eviction search ends with. -/
inductive Search where
  | victim (index : Nat)
  | parityError (key : TitleKey)
  | noVictim
  deriving DecidableEq, Repr

/-- One pass of an eviction search over entries listed from the least recently touched on: it reads each entry until one
qualifies, and ends at a parity error (R3, R22). -/
def evictionPass (qualifies : Entry → Bool) : List Entry → Nat → Search
  | [], _ => .noVictim
  | e :: rest, i =>
    if !e.parityOk then .parityError e.key
    else if qualifies e then .victim i
    else evictionPass qualifies rest (i + 1)

/-- First pass: unpinned, and its count at least its class's full requirement. Second pass: unpinned (R22). -/
def evictionSearch (r : Rules) (t : List Entry) : Search :=
  match evictionPass (fun e => e.pins == 0 && decide (r.fullOfKey e.key ≤ e.count)) t.reverse 0 with
  | .noVictim => evictionPass (fun e => e.pins == 0) t.reverse 0
  | found => found

/-- Room for one more entry: with 512 present, the victim leaves (R22). By R21 a victim is always found; where a table
that no run reaches has none, the entry at position 512 leaves (log 15). -/
def makeRoom (r : Rules) (t : List Entry) : Except TitleKey (List Entry) :=
  if t.length < Config.tallySize then .ok t
  else
    match evictionSearch r t with
    | .victim i => .ok (t.eraseIdx (t.length - 1 - i))
    | .parityError k => .error k
    | .noVictim => .ok (t.take (Config.tallySize - 1))

/-- What an application, merge or creation left: the table, and the counts before and after where an entry was
applied to or created (an old count of 0 for one created, R15). `held` says the entry was there before. -/
structure Applied where
  table : List Entry
  counts : Option (Nat × Nat)
  held : Bool
  deriving DecidableEq, Repr

/-- A reference mass once present is kept; while absent the first usable one is adopted (R17). -/
def adoptMass (held heard : Option Nat) : Option Nat := held.orElse fun _ => heard

/-- The result of a claim application, min(63, max(c, b) + 1) (R11). -/
def claimResult (c b : Nat) : Nat := min Config.maxCount (max c b + 1)

/-- A completed CLAIM applied (R11), or the entry it creates (R8). -/
def applyClaim (r : Rules) (t : List Entry) (lane : Lane) (f : ClaimFields) : Except TitleKey Applied :=
  match findEntry t f.key with
  | some e =>
    if !e.parityOk then .error e.key
    else
      let n := claimResult e.count f.basis
      .ok { table := putFirst t { e with count := n, lastClaim := some (lane, f.seq),
                                         refMass := adoptMass e.refMass f.mass }
            counts := some (e.count, n), held := true }
  | none => do
    let room ← makeRoom r t
    let n := claimResult 0 f.basis
    .ok { table := { key := f.key, count := n, refMass := f.mass, certainty := .unsure,
                     lastClaim := some (lane, f.seq), pins := 0 } :: room
          counts := some (0, n), held := false }

/-- A completed CORRECTION applied (R13), or the entry it creates; a value of 0 creates none (R8). -/
def applyCorrection (r : Rules) (t : List Entry) (f : CorrectionFields) : Except TitleKey Applied :=
  match findEntry t f.key with
  | some e =>
    if !e.parityOk then .error e.key
    else
      let n := max e.count f.value
      .ok { table := putFirst t { e with count := n }, counts := some (e.count, n), held := true }
  | none =>
    if f.value = 0 then .ok { table := t, counts := none, held := false }
    else do
      let room ← makeRoom r t
      .ok { table := { key := f.key, count := f.value, refMass := none, certainty := .unsure, lastClaim := none,
                       pins := 0 } :: room
            counts := some (0, f.value), held := false }

/-- A completed ANSWER merged into the entry for its title, if present (R14). -/
def mergeAnswer (t : List Entry) (f : AnswerFields) : Except TitleKey Applied :=
  match findEntry t f.key with
  | some e =>
    if !e.parityOk then .error e.key
    else
      let n := max e.count f.count
      .ok { table := putFirst t { e with count := n, refMass := adoptMass e.refMass f.refMass }
            counts := some (e.count, n), held := true }
  | none => .ok { table := t, counts := none, held := false }

/-- An entry read and touched, as a snapshot or a heard INQUIRY does (R2, R16). -/
def touchEntry (t : List Entry) (k : TitleKey) : Except TitleKey (List Entry × Option Entry) :=
  match findEntry t k with
  | some e => if !e.parityOk then .error e.key else .ok (putFirst t e, some e)
  | none => .ok (t, none)

/-- An own lookup: touch and pin the entry found, or create a placeholder (R7). The certainty found, or none for
ABSENT. -/
def lookup (r : Rules) (t : List Entry) (k : TitleKey) : Except TitleKey (List Entry × Option Certainty) :=
  match findEntry t k with
  | some e =>
    if !e.parityOk then .error e.key else .ok (putFirst t { e with pins := e.pins + 1 }, some e.certainty)
  | none => do
    let room ← makeRoom r t
    .ok ({ key := k, count := 0, refMass := none, certainty := .unsure, lastClaim := none, pins := 1 } :: room, none)

/-- A pin given up, without a touch and without a parity check; an entry left with count 0 and pins 0 is removed (R3,
R10, R21). -/
def unpin (t : List Entry) (k : TitleKey) : List Entry :=
  (changeEntry t k fun e => { e with pins := e.pins - 1 }).filter
    fun e => !(e.key == k && e.count == 0 && e.pins == 0)

/-- An entry made CERTAIN and touched at a window expiry, without a parity check (R3, R18). -/
def makeCertain (t : List Entry) (k : TitleKey) : List Entry :=
  match findEntry t k with
  | some e => putFirst t { e with certainty := .certain }
  | none => t

/-- Every entry UNSURE (R18). -/
def makeUnsure (t : List Entry) : List Entry := t.map fun e => { e with certainty := .unsure }

/-- The station epoch advances by one and every entry becomes UNSURE (R19). -/
def Tally.advanceEpoch (t : Tally) : Tally := { table := makeUnsure t.table, epoch := t.epoch + 1 }

end Sys2Proof.Machine
end

