-- ==== Sys2Proof/Machine/Ops.lean ====
section
/-! DEFINITION. The shared operations over the state: conditions, output and replies, the transmit queue, inquiries,
the decision and release of items, aborts, the entry to HALTED, and the watch scan. -/

namespace Sys2Proof.Machine

/-! ## Pins and unit state -/

/-- Whether the station is in a state in which attempts begin (R141, R151). -/
def StationState.transmits : StationState → Bool
  | .joining | .run | .paused => true
  | .strapFault | .configuring | .halted => false

/-- Whether the station receives and tallies (R6, 10.2). -/
def StationState.receives : StationState → Bool
  | .configuring | .joining | .run | .paused => true
  | .strapFault | .halted => false

/-- QUIET or DEFERRING, as the queue and the station state have it; an attempt or a jam in progress goes on (R141). -/
def restUnit (st : StationState) (a : LineAccess) : LineAccess :=
  match a.unit with
  | .sending | .jamming => a
  | .quiet | .deferring =>
    { a with unit := if st.transmits && a.queue.any (fun e => !e.inFlight) then .deferring else .quiet }

/-- After a change of the sets, the station state or the transmit queue: ATTN and STOP follow at once (R171, R175), and
the line access unit is DEFERRING or QUIET as it now should be (R141). -/
def refresh (s : State) : State :=
  (s.setCond (s.cond.drive s.station)).setAccess (restUnit s.station.state s.access)

/-! ## Conditions -/

/-- One occurrence reported to the condition unit (R166, R168). In STRAP FAULT none is taken (R179). The entry to HALTED
that a halt-class occurrence brings is `haltOccurrence`'s. -/
def occur (c : Condition) (d : Detail) (s : State) : State :=
  if s.station.state == .strapFault then s
  else
    s.setCond (s.cond.occurrence c d
      (occurrenceAction c (has s.cond.mask c) s.station.state (!s.arrival.items.isEmpty)))

/-- The conditions an item carries at its decision, in rank order, with their details (R43, R165). -/
def itemConditions (it : Item) : List Detail :=
  let base (c : Condition) : Detail :=
    { condition := c, source := .ownItem it.tag, title := some { chars := it.chars, part := it.part } }
  if it.reason == .halted || it.reason == .cleared then []
  else
    (if it.reason == .contention then [{ base .lineContention with value := some FrameKind.claim.code }] else []) ++
    (if it.reason == .deadline then [{ base .deadline with value := some (it.ordinal.getD 0) }] else []) ++
    (if it.reason == .mass then [base .massMismatch] else []) ++
    (match it.watchMatch with
      | some i => [{ base .watchMatch with value := some i, event := some .presented }]
      | none => []) ++
    (if it.corrected then [{ base .correctedOrdinal with value := some (it.ordinal.getD 0) }] else []) ++
    (if it.disposition == some .reject then [base .identifierFault] else [])

/-- Occurrences reported one after another. -/
def occurAll (ds : List Detail) (s : State) : State := ds.foldl (fun s d => occur d.condition d s) s

/-! ## Output stream and replies -/

/-- A record produced onto the output stream (R194). -/
def LanePort.produce (p : LanePort) (o : OutRecord) : LanePort := { p with output := p.output ++ [o] }

/-- The head request is replied to and gives up its place in the input buffer (R192). -/
def answerRequest (r : Request) (res : ResultCode) (content : List Byte) (s : State) : State :=
  s.setPort { s.port.produce (replyRecord r res content) with buffer := s.port.buffer.drop 1 }

/-- The request in handling, when the row's command may handle it: POWER GOOD is asserted, the output stream has room
for a reply, no CLEAR WORK is still in handling, and the head of the buffer is a request of this row (R192). -/
def requestFor (row : RequestRow) (s : State) : Option Request :=
  if s.station.powerGood && !s.port.clearing && decide (replyCount s.port.output < Config.replyRoom) then
    match s.port.buffer with
    | r :: _ => if r.row == row then some r else none
    | [] => none
  else none

/-- A request is judged by its form, then by the station state, and then taken (R191, R193). A command for which no
request waits changes nothing (log 1). -/
def serve (row : RequestRow) (taken : StationState → Bool) (take : Request → State → State) (s : State) : State :=
  match requestFor row s with
  | none => s
  | some r =>
    if !r.formOk then answerRequest r .refusedForm [] s
    else if !taken s.station.state then answerRequest r .refusedState [] s
    else take r s

/-- READ requests, ACK and END ATTENTION are served in every state but STRAP FAULT (R193). -/
def servedState (st : StationState) : Bool := st != .strapFault

/-! ## Transmit queue -/

/-- An entry placed with attempt count 0, no no-retry mark, WAITING (R139). -/
def LineAccess.placeEntry (a : LineAccess) (o : Owner) (place : Nat) : LineAccess :=
  { a with queue := a.queue ++ [{ owner := o, place := place }] }

/-- An answer or correction entry placed after every entry of its kind present (R139). -/
def LineAccess.placeLast (a : LineAccess) (o : Owner) : LineAccess :=
  { a.placeEntry o a.placements with placements := a.placements + 1 }

/-- An owner's entries leave the queue (R139, R149). -/
def LineAccess.removeEntry (a : LineAccess) (o : Owner) : LineAccess :=
  { a with queue := a.queue.filter fun e => e.owner != o }

/-- An owner's entries changed. -/
def LineAccess.changeEntries (a : LineAccess) (o : Owner) (f : TxEntry → TxEntry) : LineAccess :=
  { a with queue := a.queue.map fun e => if e.owner == o then f e else e }

/-- The entry of the attempt in progress (R138). -/
def LineAccess.inFlightEntry (a : LineAccess) : Option TxEntry := a.queue.find? fun e => e.inFlight

/-- The place of an owner's kind in the selection order (R140). -/
def Owner.selectionClass : Owner → Nat
  | .correction _ _ _ => 1
  | .answer _ _ => 2
  | .greeting => 3
  | .claim _ | .inquiry _ | .closedInquiry => 4

/-- Whether an entry goes before another in the selection order (R140). -/
def TxEntry.before (a b : TxEntry) : Bool :=
  decide (a.owner.selectionClass < b.owner.selectionClass) ||
    (a.owner.selectionClass == b.owner.selectionClass && decide (a.place < b.place))

/-- The first in the selection order among entries, by one walk through them. -/
def firstOf : List TxEntry → Option TxEntry
  | [] => none
  | e :: rest =>
    match firstOf rest with
    | none => some e
    | some f => if f.before e then some f else some e

/-- The candidate: the first WAITING entry in the selection order (R140). -/
def LineAccess.candidate (a : LineAccess) : Option TxEntry := firstOf (a.queue.filter fun e => !e.inFlight)

/-- The jam commanded: the transmitter finishes the character in progress, then drives the line low for 14 bit times and
releases it for 2 (R124). -/
def LineAccess.jam (a : LineAccess) (rate : BitVec 2) : LineAccess :=
  let wave := jammedWave rate a.wave a.txElapsed
  { a with unit := .jamming, wave := wave, jamLeft := wave.length * bitPeriods rate - a.txElapsed }

/-- The own frame in flight aborted and the transmit queue emptied (R150). -/
def LineAccess.abort (a : LineAccess) (rate : BitVec 2) : LineAccess :=
  let emptied := { a with queue := [], flight := none, readback := 0, readbackFault := false }
  match a.unit with
  | .sending => emptied.jam rate
  | .jamming => emptied
  | .quiet | .deferring => { emptied with unit := .quiet }

/-! ## Items -/

def Item.undecided (it : Item) : Bool := it.stage != .decided

/-- The title key of an item that passed the pretest. -/
def Item.key (it : Item) : TitleKey := keyOfChars it.chars it.part

/-- The record with a tag (R27). -/
def Arrival.find (a : Arrival) (tag : Byte) : Option Item := a.items.find? fun it => it.tag == tag

/-- The record with a tag changed. -/
def Arrival.change (a : Arrival) (tag : Byte) (f : Item → Item) : Arrival :=
  { a with items := a.items.map fun it => if it.tag == tag then f it else it }

/-- The record with a tag changed, in the state. -/
def changeItem (tag : Byte) (f : Item → Item) (s : State) : State := s.setArrival (s.arrival.change tag f)

/-- The decided record: disposition and hold reason set, deadline and settle timer stopped, the pin given up (R43). A
halt or CLEAR WORK discards its presented watch match (R43, R162). -/
def Item.decidedAs (it : Item) (d : Disposition) (reason : HoldReason) : Item :=
  { it with
    stage := .decided, disposition := some d, reason := reason, settle := none, pinned := false
    watchMatch := if reason == .halted || reason == .cleared then none else it.watchMatch }

/-- The decision of an item (R43): the record, the pin, then its conditions in rank order. -/
def decideItem (tag : Byte) (d : Disposition) (reason : HoldReason) (s : State) : State :=
  match s.arrival.find tag with
  | none => s
  | some it =>
    if it.undecided then
      let marked := changeItem tag (fun it => it.decidedAs d reason) s
      let unpinned :=
        if it.pinned then marked.setTally { marked.tally with table := unpin marked.tally.table it.key } else marked
      occurAll (itemConditions (it.decidedAs d reason)) unpinned
    else s

/-- Every undecided item decided HOLD, in queue order (R51, R52). -/
def decideAll (reason : HoldReason) (s : State) : State :=
  (s.arrival.items.map Item.tag).foldl (fun s t => decideItem t .hold reason s) s

/-- The decided records at the head released while the output stream has room (R49): what stays, and the stream. -/
def releaseHead : List Item → List OutRecord → List Item × List OutRecord
  | [], out => ([], out)
  | it :: rest, out =>
    if it.stage == .decided && decide (dispositionCount out < Config.dispositionRoom) then
      releaseHead rest (out ++ [dispositionRecord it])
    else (it :: rest, out)

/-- CLEAR WORK in handling ends when its last DISPOSITION record has been produced: the four sets are cleared, unless a
halt-class occurrence came first, and then its reply is produced (R52, R188). -/
def finishClearWork (s : State) : State :=
  if s.port.clearing && s.arrival.items.isEmpty then
    let cleared := if s.station.state == .halted then s else s.setCond s.cond.clearSets
    match cleared.port.buffer with
    | r :: _ =>
      let replied := answerRequest r .done [] cleared
      replied.setPort { replied.port with clearing := false }
    | [] => cleared.setPort { cleared.port with clearing := false }
  else s

/-- Release of the decided records at the head (R49). A release that leaves the queue empty makes every deferred
condition pending (R167). -/
def releaseItems (s : State) : State :=
  let (items, out) := releaseHead s.arrival.items s.port.output
  let released := (s.setArrival { s.arrival with items := items }).setPort { s.port with output := out }
  let emptied :=
    if items.isEmpty && !s.arrival.items.isEmpty then released.setCond released.cond.releaseDeferred else released
  finishClearWork emptied

/-! ## HALTED -/

/-- The entry steps of HALTED (R185): abort, decisions, timers and pending work dropped, receiver stopped, release. A
frame complete in form that has not been checked is dropped silently, as the partial frame is (R136; DESIGN CHOICE, log 43).
A station that is not receiving does not enter it. -/
def enterHalted (s : State) : State :=
  if s.station.state.receives then
    let moved := s.setStation { s.station with state := .halted }
    let aborted := moved.setAccess (moved.access.abort moved.station.rate)
    let decided := decideAll .halted aborted
    let dropped :=
      ((decided.setClaim { decided.claim with corrections := [], greetingTimer := none }).setInquiry {}).setLine
        { decided.line with receiver := .stopped, idle := 0, assembler := .muted, discards := [], atCheck := [] }
    releaseItems dropped
  else s

/-- A halt-class occurrence: its condition becomes pending whatever the mask, and the station enters HALTED (R169). -/
def haltOccurrence (c : Condition) (d : Detail) (s : State) : State := enterHalted (occur c d s)

/-- A parity error on reading an entry (R3): TALLY MEMORY FAULT with source STATION and the title key as far as it was
read, which is a free value of 13 digits and a part number (log 9). -/
def memoryFault (k : TitleKey) (s : State) : State :=
  haltOccurrence .tallyMemoryFault
    { condition := .tallyMemoryFault, source := .station
      title := (Config.keyAsFarAsRead s.draws k).map fun read => portKey { digits := read.1.toList, part := read.2 } }
    (s.setDraws (s.draws + 1))

/-! ## Epoch -/

/-- The tally engine advances the epoch (R19). -/
def advanceEpoch (s : State) : State := s.setTally s.tally.advanceEpoch

/-! ## Items and inquiries -/

/-- The acceptance order of the item with a tag, its place among claims and inquiries (R138). -/
def placeOf (tag : Byte) (s : State) : Nat := ((s.arrival.find tag).map Item.accepted).getD 0

/-- An item enters QUEUED and the claim sequencer queues its CLAIM (R35, R139). -/
def queueClaim (tag : Byte) (s : State) : State :=
  let staged := changeItem tag (fun it => { it with stage := .queued }) s
  staged.setAccess (staged.access.placeEntry (.claim tag) (placeOf tag staged))

/-- The own inquiry pending for a title (R84). -/
def InquiryUnit.find (u : InquiryUnit) (k : TitleKey) : Option Inquiry := u.inquiries.find? fun q => q.key == k

/-- The own inquiry for a title changed. -/
def InquiryUnit.change (u : InquiryUnit) (k : TitleKey) (f : Inquiry → Inquiry) : InquiryUnit :=
  { u with inquiries := u.inquiries.map fun q => if q.key == k then f q else q }

/-- The own inquiry for a title removed. -/
def InquiryUnit.remove (u : InquiryUnit) (k : TitleKey) : InquiryUnit :=
  { u with inquiries := u.inquiries.filter fun q => q.key != k }

/-- An item joins the pending inquiry for its title, or opens one and its INQUIRY is queued (R34, R84, R85). -/
def joinInquiry (tag : Byte) (k : TitleKey) (s : State) : State :=
  match s.inquiry.find k with
  | some _ => s.setInquiry (s.inquiry.change k fun q => { q with waiting := q.waiting ++ [tag] })
  | none =>
    (s.setInquiry { s.inquiry with inquiries := s.inquiry.inquiries ++ [{ key := k, waiting := [tag] }] }).setAccess
      (s.access.placeEntry (.inquiry k) (placeOf tag s))

/-- An inquiry ends and the items still waiting on it go to QUEUED, their CLAIMs queued in arrival order (R35). -/
def closeToQueued (k : TitleKey) (s : State) : State :=
  match s.inquiry.find k with
  | none => s
  | some q => q.waiting.foldl (fun s t => queueClaim t s) (s.setInquiry (s.inquiry.remove k))

/-- The last waiting item has left: the INQUIRY is withdrawn, or left to run without retry, or its window is cancelled
with the record (R91). -/
def closeInquiry (q : Inquiry) (s : State) : State :=
  let removed := s.setInquiry (s.inquiry.remove q.key)
  match q.stage with
  | .queued => removed.setAccess (removed.access.removeEntry (.inquiry q.key))
  | .sending =>
    removed.setAccess
      (removed.access.changeEntries (.inquiry q.key) fun e => { e with owner := .closedInquiry, noRetry := true })
  | .window => removed

/-- An item leaves its inquiry. The entry takes the place of the next waiting item (R85), or the inquiry closes (R91). -/
def leaveInquiry (tag : Byte) (k : TitleKey) (s : State) : State :=
  match s.inquiry.find k with
  | none => s
  | some q =>
    match q.waiting.filter fun t => t != tag with
    | [] => closeInquiry q s
    | next :: others =>
      let left := s.setInquiry (s.inquiry.change k fun q => { q with waiting := next :: others })
      left.setAccess (left.access.changeEntries (.inquiry k) fun e => { e with place := placeOf next left })

/-! ## Watch scan -/

/-- Whether a watch entry's title key matches (R154). -/
def WatchEntry.matchesKey (w : WatchEntry) (k : TitleKey) : Bool :=
  w.digits == k.digits &&
    match w.part with
    | none => true
    | some p => p == k.part

/-- Whether a watch entry wins an event (R156). -/
def WatchEntry.wins (w : WatchEntry) (k : TitleKey) (e : WatchEvent) : Bool :=
  w.valid && w.matchesKey k && w.events.getLsbD e.index

/-- The scan from entry `i` on: the winner's index, or none at the end of the list (R156). -/
def scanFrom (k : TitleKey) (e : WatchEvent) : List WatchEntry → Nat → Option Nat
  | [], _ => none
  | w :: rest, i => if w.wins k e then some i else if w.endOfList then none else scanFrom k e rest (i + 1)

/-- A winner's hits rise by one, holding at 255 (R156). -/
def addHit (list : List WatchEntry) (i : Nat) : List WatchEntry :=
  list.modify i fun w => { w with hits := min 255 (w.hits + 1) }

/-- One scan for a tally event, reported at once with source LINE (R156, R158). -/
def scanLineEvent (k : TitleKey) (lane : Lane) (s : State) (e : WatchEvent) : State :=
  match scanFrom k e s.watch 0 with
  | none => s
  | some i =>
    occur .watchMatch
      { condition := .watchMatch, source := .line lane, title := some (portKey k), value := some i, event := some e }
      (s.setWatch (addHit s.watch i))

/-- The events of an application or merge, in the order COUNTED, COMPLETED, SURPLUS (R15, R155, R157). -/
def tallyEvents (full old new : Nat) (isClaim : Bool) : List WatchEvent :=
  (if isClaim then [.counted] else []) ++ (if old < full ∧ full ≤ new then [.completed] else []) ++
    (if isClaim && decide (full < new) then [.surplus] else [])

/-- The hand-off to the watch scanner after an application or merge (R15): one scan for each event. -/
def scanApplied (k : TitleKey) (lane : Lane) (isClaim : Bool) (counts : Option (Nat × Nat)) (s : State) : State :=
  match counts with
  | none => s
  | some (old, new) => (tallyEvents (s.rules.fullOfKey k) old new isClaim).foldl (scanLineEvent k lane) s

/-! ## Roster and corrections -/

/-- The roster record of a lane; for this station's own lane its last sequence is the own tally sequence (R62, R66). -/
def rosterRecord (lane : Lane) (s : State) : LaneRecord :=
  let held := s.claim.roster.getD (lane.toNat - 1) {}
  if lane == s.station.lane then { held with lastSeq := s.claim.ownSeq } else held

/-- A roster record replaced. -/
def ClaimSequencer.setRecord (c : ClaimSequencer) (lane : Lane) (x : LaneRecord) : ClaimSequencer :=
  { c with roster := c.roster.set (lane.toNat - 1) x }

/-- The roster and gap check on a peer CLAIM or CORRECTION (R64, R65): an ABSENT record becomes PRESENT, and a PRESENT
one whose last sequence the frame does not follow records TALLY GAP and advances the epoch. -/
def rosterCheck (kind : FrameKind) (lane : Lane) (seq : Byte) (k : TitleKey) (s : State) : State :=
  let held := s.claim.roster.getD (lane.toNat - 1) {}
  let role := if kind == .claim then .lane else held.role
  let noted := s.setClaim (s.claim.setRecord lane { present := true, lastSeq := seq, role := role })
  if held.present && seq != held.lastSeq + 1 then
    advanceEpoch (occur .tallyGap
      { condition := .tallyGap, source := .line lane, title := some (portKey k), value := some kind.code } noted)
  else noted

/-- A CORRECTION scheduled for a stale claim, or TRANSMIT BACKLOG with 4 pending (R68). -/
def scheduleCorrection (lane : Lane) (seq : Byte) (k : TitleKey) (value : Nat) (s : State) : State :=
  if s.claim.corrections.length < Config.correctionLimit then
    s.setClaim { s.claim with
      corrections := s.claim.corrections ++
        [{ number := s.claim.scheduled, claimLane := lane, claimSeq := seq, key := k, value := value
           holdOff := holdOffPeriods s.station.lane }]
      scheduled := s.claim.scheduled + 1 }
  else
    occur .transmitBacklog
      { condition := .transmitBacklog, source := .line lane, title := some (portKey k)
        value := some FrameKind.correction.code } s

/-- The owner a correction's transmit queue entry names (R138, log 32). -/
def Correction.owner (c : Correction) : Owner := .correction c.claimLane c.claimSeq c.number

/-- Whether a pending correction is for a claim (R68). -/
def Correction.names (c : Correction) (lane : Byte) (seq : Byte) : Bool := namesLane lane c.claimLane && c.claimSeq == seq

/-- Whether a heard CORRECTION withdraws a pending one (R71). -/
def Correction.suppressedBy (c : Correction) (f : CorrectionFields) : Bool :=
  c.names f.claimLane f.claimSeq && c.stage != .sending && decide (c.value ≤ f.value)

/-- Pending corrections removed, each with its own transmit queue entry (R71). -/
def removeCorrections (p : Correction → Bool) (s : State) : State :=
  let gone := s.claim.corrections.filter p
  (s.setClaim { s.claim with corrections := s.claim.corrections.filter fun c => !p c }).setAccess
    (gone.foldl (fun a c => a.removeEntry c.owner) s.access)

/-- An own number drawn: the sequence advances to its next value (R56). -/
def ClaimSequencer.draw (c : ClaimSequencer) : ClaimSequencer := { c with ownSeq := c.ownSeq + 1 }

/-! ## Answers -/

/-- Whether a heard ANSWER withdraws a pending one, given the entry's count after the merge (R97). -/
def Answer.suppressedBy (x : Answer) (f : AnswerFields) (count : Option Nat) : Bool :=
  namesLane f.inquirer x.inquirer && x.key == f.key && x.stage != .sending &&
    match count with
    | none => true
    | some c => decide (c ≤ f.count)

/-- Pending answers removed with their transmit queue entries (R97, R98). -/
def removeAnswers (p : Answer → Bool) (s : State) : State :=
  let gone := s.inquiry.answers.filter p
  (s.setInquiry { s.inquiry with answers := s.inquiry.answers.filter fun x => !p x }).setAccess
    (gone.foldl (fun a x => a.removeEntry (.answer x.inquirer x.key)) s.access)

/-! ## Frames in line order -/

/-- The frame that completed earliest among the receive slots and the own-frame holder, and whether it is own (R4). -/
def earliestFrame (l : Transceiver) : Option (StoredFrame × Bool) :=
  let stored := ([l.slot1, l.slot2].filterMap id).map (fun f => (f, false)) ++
    ([l.holder].filterMap id).map (fun f => (f, true))
  stored.foldl (fun best f =>
    match best with
    | none => some f
    | some b => if f.1.order < b.1.order then some f else some b) none

/-- The store of a handled frame becomes free (R4). -/
def freeFrame (f : StoredFrame) (l : Transceiver) : Transceiver :=
  let free (x : Option StoredFrame) : Option StoredFrame := if x == some f then none else x
  { l with slot1 := free l.slot1, slot2 := free l.slot2, holder := free l.holder }

/-- The frame the tally engine takes next, where it is of this origin and kind (R4, R5, R6); a peer frame with this
station's own lane is of no kind, being a duplicate (R75). -/
def frameFor (own : Bool) (kind : FrameKind) (s : State) : Option StoredFrame :=
  if s.station.powerGood && s.station.state.receives then
    match earliestFrame s.line with
    | some (f, o) => if o == own && f.kind == kind && (own || f.lane != s.station.lane) then some f else none
    | none => none
  else none

/-- The handling of a frame of this origin and kind, which frees its store (R4; also when a parity error ends it,
log 14). -/
def handleFrame (own : Bool) (kind : FrameKind) (handle : StoredFrame → State → State) (s : State) : State :=
  match frameFor own kind s with
  | none => s
  | some f => refresh (handle f (s.setLine (freeFrame f s.line)))

/-- A command acts only while POWER GOOD is asserted: the station is otherwise inactive (R181). -/
def powered (act : State → State) (s : State) : State := if s.station.powerGood then act s else s

end Sys2Proof.Machine
end

