-- ==== Sys2Proof/Machine/Receiver.lean ====
section
/-! DEFINITION. The character receiver's reports, the frame assembler, the unconfirmed list, the frame check and the receive
slots (chapter 6). While this station transmits, characters, framing errors and breaks go to the line access unit for
readback instead (R134, R145). -/

namespace Sys2Proof.Machine

/-- Whether the receiver can report a character, a framing error or a break: it runs and is past its wait for high line,
and no break is in progress (R120 to R122, R136). -/
def receiverHears (s : State) : Bool :=
  s.station.powerGood && s.station.state.receives &&
    (s.line.receiver == .idle || s.line.receiver == .inCharacter)

/-- Whether this station is transmitting a frame or a jam (R134). -/
def transmitting (s : State) : Bool := s.access.unit == .sending || s.access.unit == .jamming

/-- The line becomes idle, and its idle time counts from 0 (R123). -/
def lineIdle (s : State) : State := s.setLine { s.line with receiver := .idle, idle := 0 }

/-- A discard confirmed: LINE CHECK recorded with the lane and kind as read, and the epoch advanced (R132, R135). -/
def confirmDiscard (d : Discard) (s : State) : State :=
  advanceEpoch (occur .lineCheck { condition := .lineCheck, source := .line d.lane, value := some d.kind.toNat } s)

/-- The discard of a frame with this header (R132). -/
def discardOf (header : Byte) : Discard := { lane := headerLane header, kind := headerKind header }

/-- Room on the unconfirmed list: with 4 discards on it the oldest is confirmed (R132). -/
def discardRoom (s : State) : State :=
  match s.line.discards with
  | oldest :: rest =>
    if Config.discardLimit ≤ s.line.discards.length then confirmDiscard oldest (s.setLine { s.line with discards := rest })
    else s
  | [] => s

/-- A discard placed on the unconfirmed list (R132). -/
def placeDiscard (d : Discard) (s : State) : State :=
  let room := discardRoom s
  room.setLine { room.line with discards := room.line.discards ++ [d] }

/-- The assembler in another state. -/
def setAssembler (a : Assembler) (s : State) : State := s.setLine { s.line with assembler := a }

/-- A character read back while SENDING is compared with the character sent: data, mark and noise (R145). While JAMMING
it is compared with nothing (R146). -/
def readBack (data : Byte) (mark noisy : Bool) (s : State) : State :=
  if s.access.unit == .sending then
    match s.access.flight with
    | none => s
    | some fl =>
      let sent := (frameBytes fl.kind s.station.lane fl.payload)[s.access.readback]?
      let ok := sent == some data && mark == (s.access.readback == 0) && !noisy
      s.setAccess { s.access with
        readback := s.access.readback + 1, readbackFault := s.access.readbackFault || !ok }
  else s

/-- A stop bit read 0 while SENDING collides (R145); the receiver's later report adds nothing while JAMMING. -/
def readBackFault (s : State) : State :=
  if s.access.unit == .sending then s.setAccess { s.access with readbackFault := true } else s

/-- A header at the assembler: a partial frame is discarded, then the new header is read (R125). -/
def takeHeader (data : Byte) (noisy : Bool) (s : State) : State :=
  let before :=
    match s.line.assembler with
    | .assembling f => placeDiscard (discardOf f.header) s
    | .muted => s
  if (kindOfCode (headerKind data)).isSome && headerLane data != 0 then
    setAssembler (.assembling { header := data, noisy := noisy.toNat }) before
  else setAssembler .muted (placeDiscard (discardOf data) before)

/-- HEADER RECEIVED (R125). -/
def headerReceived (data : Byte) (noisy : Bool) (s : State) : State :=
  if receiverHears s then
    let heard := lineIdle s
    if transmitting s then readBack data true noisy heard else refresh (takeHeader data noisy heard)
  else s

def execHeaderReceived (data : Byte) (noisy : Bool) (s : State) : Host.Outcome State Fault Refusal :=
  .next (headerReceived data noisy s)

/-- Characters expected after a header, check characters included; none for an invalid kind (R125). -/
def charactersExpected (header : Byte) : Option Nat :=
  (kindOfCode (headerKind header)).map fun k => k.frameLength - 1

/-- An unmarked character at the assembler: appended, and at the expected length the frame is complete in form and goes
to the frame check (R126). -/
def takePayload (data : Byte) (noisy : Bool) (s : State) : State :=
  match s.line.assembler with
  | .muted => s
  | .assembling f =>
    let grown := { f with chars := f.chars ++ [data], noisy := f.noisy + noisy.toNat }
    if charactersExpected f.header == some grown.chars.length then
      s.setLine { s.line with assembler := .muted, atCheck := s.line.atCheck ++ [grown] }
    else setAssembler (.assembling grown) s

/-- PAYLOAD CHARACTER RECEIVED (R126). -/
def payloadCharacterReceived (data : Byte) (noisy : Bool) (s : State) : State :=
  if receiverHears s then
    let heard := lineIdle s
    if transmitting s then readBack data false noisy heard else takePayload data noisy heard
  else s

def execPayloadCharacterReceived (data : Byte) (noisy : Bool) (s : State) : Host.Outcome State Fault Refusal :=
  .next (payloadCharacterReceived data noisy s)

/-- DOCK FRAMING ERROR, reported when the line reads high again (R122, R127). -/
def dockFramingError (s : State) : State :=
  if receiverHears s then
    let heard := lineIdle s
    if transmitting s then readBackFault heard
    else
      match s.line.assembler with
      | .muted => heard
      | .assembling f => refresh (placeDiscard (discardOf f.header) (setAssembler .muted heard))
  else s

def execDockFramingError (s : State) : Host.Outcome State Fault Refusal := .next (dockFramingError s)

/-- BREAK: a partial frame is dropped silently and every unconfirmed discard cancelled (R128, R132); the line stays busy
until it reads high (R123). -/
def lineBreak (s : State) : State :=
  if receiverHears s then
    let heard := s.setLine { s.line with receiver := .inBreak, idle := 0 }
    if transmitting s then readBackFault heard
    else heard.setLine { heard.line with assembler := .muted, discards := [] }
  else s

def execBreak (s : State) : Host.Outcome State Fault Refusal := .next (lineBreak s)

/-- BREAK END: the line reads high again and is idle (R122, R123). -/
def breakEnd (s : State) : State := if s.line.receiver == .inBreak then lineIdle s else s

def execBreakEnd (s : State) : Host.Outcome State Fault Refusal := .next (powered breakEnd s)

/-- HIGH LINE WAIT END: the receiver begins to watch for falling edges with the line idle (R120, R123). -/
def highLineWaitEnd (s : State) : State := if s.line.receiver == .waitingHigh then lineIdle s else s

def execHighLineWaitEnd (s : State) : Host.Outcome State Fault Refusal := .next (powered highLineWaitEnd s)

/-- START BIT SEEN: a validated start bit makes the line busy and ends the idle count (R123, R144). -/
def startBitSeen (s : State) : State :=
  if s.line.receiver == .idle then s.setLine { s.line with receiver := .inCharacter, idle := 0 } else s

def execStartBitSeen (s : State) : Host.Outcome State Fault Refusal := .next (powered startBitSeen s)

/-- Whether idle time passes for the assembler and the unconfirmed list: the receiver runs with the line idle, and no own
frame is on the line (R129, R132, R134). -/
def idlePasses (s : State) : Bool :=
  s.station.powerGood && s.station.state.receives && s.line.receiver == .idle && !transmitting s

/-- TRUNCATION: the partial frame is discarded, and the discard is confirmed as it is placed (R129, R132). -/
def truncation (s : State) : State :=
  match s.line.assembler with
  | .muted => s
  | .assembling f =>
    if idlePasses s then refresh (confirmDiscard (discardOf f.header) (discardRoom (setAssembler .muted s))) else s

def execTruncation (s : State) : Host.Outcome State Fault Refusal := .next (truncation s)

/-- DISCARD CONFIRMED: the oldest discard on the list is confirmed (R132, log 25). -/
def discardConfirmed (s : State) : State :=
  match s.line.discards with
  | [] => s
  | oldest :: rest =>
    if idlePasses s then refresh (confirmDiscard oldest (s.setLine { s.line with discards := rest })) else s

def execDiscardConfirmed (s : State) : Host.Outcome State Fault Refusal := .next (discardConfirmed s)

/-- The detail of LINE NOISE and LINE OVERRUN (R135). -/
def frameDetail (c : Condition) (kind : FrameKind) (lane : Lane) (payload : List Byte) : Detail :=
  { condition := c, source := .line lane, title := (frameKey kind payload).map portKey, value := some kind.code }

/-- A completed peer frame takes an empty slot, with LINE NOISE if a character was noisy, or is lost to LINE OVERRUN and
an epoch advance (R131, R133, R135). Of two empty slots it takes the first, where R133 says only "an empty slot" (DESIGN
CHOICE, log 34). -/
def storeFrame (kind : FrameKind) (f : RawFrame) (s : State) : State :=
  let payload := f.chars.take kind.payloadLength
  let lane := headerLane f.header
  let stored : StoredFrame := { kind := kind, lane := lane, payload := payload, order := s.line.nextOrder }
  let stamped := { s.line with nextOrder := s.line.nextOrder + 1 }
  let noise (s : State) : State :=
    if 1 ≤ f.noisy then occur .lineNoise (frameDetail .lineNoise kind lane payload) s else s
  match s.line.slot1, s.line.slot2 with
  | none, _ => noise (s.setLine { stamped with slot1 := some stored })
  | some _, none => noise (s.setLine { stamped with slot2 := some stored })
  | some _, some _ =>
    advanceEpoch (occur .lineOverrun (frameDetail .lineOverrun kind lane payload) (s.setLine stamped))

/-- PEER FRAME COMPLETE: the frame check on a frame complete in form (R130, R131). -/
def peerFrameComplete (s : State) : State :=
  match s.line.atCheck with
  | [] => s
  | f :: rest =>
    if s.station.powerGood && s.station.state.receives then
      let taken := s.setLine { s.line with atCheck := rest }
      refresh <|
        match kindOfCode (headerKind f.header) with
        | some kind => if passesCheck f then storeFrame kind f taken else placeDiscard (discardOf f.header) taken
        | none => placeDiscard (discardOf f.header) taken
    else s

def execPeerFrameComplete (s : State) : Host.Outcome State Fault Refusal := .next (peerFrameComplete s)

end Sys2Proof.Machine
end

