-- ==== Sys2Proof/Machine/LineAccess.lean ====
section
/-! DEFINITION. Line access: the start of an attempt with the build by the frame's owner, completion, collision, and the end
of a jam (chapter 7). -/

namespace Sys2Proof.Machine

/-- What the owner's build at an attempt start answers: the frame, with the state its records then show, or a refusal
with the state it leaves (R141). -/
inductive Build where
  | frame (kind : FrameKind) (payload : List Byte) (s : State)
  | refusedBuild (s : State)

/-- The build of an item's CLAIM (R37, R38, R58, R110): snapshot, at the first build the mass check and then the draw of a
sequence. MISMATCH and a parity error refuse it. -/
def buildClaim (tag : Byte) (s : State) : Build :=
  let gone := s.setAccess (s.access.removeEntry (.claim tag))
  match s.arrival.find tag with
  | none => .refusedBuild gone
  | some it =>
    match touchEntry s.tally.table it.key with
    | .error bad => .refusedBuild (memoryFault bad gone)
    | .ok (table, entry) =>
      let count := (entry.map Entry.count).getD 0
      let touched := s.setTally { s.tally with table := table }
      match it.claimSeq with
      | some seq =>
        .frame .claim (claimPayload seq it.key count it.mass.usableGrams)
          (changeItem tag (fun it => { it with stage := .onLine }) touched)
      | none =>
        let check := massCheck (s.rules.classAt it.cls) count (entry.bind Entry.refMass) it.mass
        let noted := changeItem tag (fun it => { it with massCheck := check }) touched
        if check == .mismatch then
          .refusedBuild (decideItem tag .hold .mass (noted.setAccess (noted.access.removeEntry (.claim tag))))
        else
          let seq := s.claim.ownSeq + 1
          .frame .claim (claimPayload seq it.key count it.mass.usableGrams)
            (changeItem tag (fun it => { it with stage := .onLine, claimSeq := some seq })
              (noted.setClaim noted.claim.draw))

/-- The build of an ANSWER (R96): snapshot; absent or at count 0 the answer is dropped. -/
def buildAnswer (inquirer : Lane) (k : TitleKey) (s : State) : Build :=
  let gone := s.setAccess (s.access.removeEntry (.answer inquirer k))
  let drop (s : State) : State :=
    s.setInquiry { s.inquiry with
      answers := s.inquiry.answers.filter fun x => !(x.inquirer == inquirer && x.key == k) }
  match touchEntry s.tally.table k with
  | .error bad => .refusedBuild (memoryFault bad gone)
  | .ok (table, entry) =>
    match entry with
    | none => .refusedBuild (drop gone)
    | some e =>
      if e.count = 0 then .refusedBuild (drop (gone.setTally { gone.tally with table := table }))
      else
        .frame .answer (answerPayload inquirer k e.count e.refMass)
          ((s.setTally { s.tally with table := table }).setInquiry { s.inquiry with
            answers := s.inquiry.answers.map fun x =>
              if x.inquirer == inquirer && x.key == k then { x with stage := .sending } else x })

/-- The pending correction an entry's owner names, of two with one claim lane and claim sequence the one the entry was queued
for (R138; DESIGN CHOICE, log 32). -/
def ClaimSequencer.ownerOf (c : ClaimSequencer) (o : Owner) : Option Correction := c.corrections.find? fun x => x.owner == o

/-- The build of the CORRECTION of the entry's own record (R70; of two for one claim, DESIGN CHOICE, log 32): at the first attempt the draw of a sequence; the
same frame at every later one. -/
def buildCorrection (o : Owner) (s : State) : Build :=
  match s.claim.ownerOf o with
  | none => .refusedBuild (s.setAccess (s.access.removeEntry o))
  | some c =>
    let own := c.drawn.getD (s.claim.ownSeq + 1)
    let drawn := if c.drawn.isNone then s.claim.draw else s.claim
    .frame .correction (correctionPayload own c.claimLane c.claimSeq c.key c.value)
      (s.setClaim { drawn with
        corrections := drawn.corrections.map fun c =>
          if c.owner == o then { c with stage := .sending, drawn := some own } else c })

/-- The owner builds the frame of the candidate's entry (R141). -/
def buildFrame (o : Owner) (s : State) : Build :=
  match o with
  | .claim tag => buildClaim tag s
  | .inquiry k =>
    .frame .inquiry (inquiryPayload k) (s.setInquiry (s.inquiry.change k fun q => { q with stage := .sending }))
  | .closedInquiry => .refusedBuild (s.setAccess (s.access.removeEntry .closedInquiry))
  | .answer l k => buildAnswer l k s
  | .correction _ _ _ => buildCorrection o s
  | .greeting => .frame .greeting (greetingPayload s.station.observer) s

/-- A frame handed to the transmitter: its entry alone IN FLIGHT, the yield flag cleared, the unit SENDING (R138, R141,
R143). -/
def beginSending (e : TxEntry) (kind : FrameKind) (payload : List Byte) (s : State) : State :=
  s.setAccess { s.access with
    queue := s.access.queue.replace e { e with inFlight := true }
    yield := false, unit := .sending, flight := some { kind := kind, payload := payload }, readback := 0
    readbackFault := false, wave := frameBits kind s.station.lane payload, txElapsed := 0 }

/-- The conditions of R141 on the station, the unit, the holder and the line. -/
def mayBegin (s : State) : Bool :=
  s.station.powerGood && s.station.state.transmits && s.access.unit == .deferring && s.line.holder.isNone &&
    s.line.receiver == .idle

/-- The candidate, where the idle time covers its deferral (R141, R142). -/
def readyCandidate (idleBits : Nat) (s : State) : Option TxEntry :=
  if mayBegin s then
    s.access.candidate.filter fun e => decide (deferral s.station.lane s.access.yield e.attempts ≤ idleBits)
  else none

/-- Attempts at one boundary: a refused build lets the next candidate be considered at the same boundary (R141). -/
def attempts : Nat → Nat → State → State
  | 0, _, s => s
  | fuel + 1, idleBits, s =>
    match readyCandidate idleBits s with
    | none => s
    | some e =>
      match buildFrame e.owner s with
      | .frame kind payload built => beginSending e kind payload built
      | .refusedBuild left => attempts fuel idleBits left

/-- ATTEMPT START at a bit time boundary at which the line has been idle for `idleBits` bit times (R141). Where the
conditions do not hold, no attempt begins at this boundary. -/
def attemptStart (idleBits : Nat) (s : State) : State :=
  match readyCandidate idleBits s with
  | none => s
  | some _ => refresh (attempts s.access.queue.length idleBits s)

def execAttemptStart (idleBits : Nat) (s : State) : Host.Outcome State Fault Refusal := .next (attemptStart idleBits s)

/-- OWN FRAME COMPLETION: the readback of the last check character ends without collision (R145). The frame enters the
own-frame holder with its place in line order, its entry leaves the queue, the yield flag is set, and a CLAIM's item is
marked completed on line (R40, R59, R134, R143). With that character's completion the line is idle (R123). -/
def ownFrameCompletion (s : State) : State :=
  match s.access.flight with
  | none => s
  | some fl =>
    if s.station.powerGood && s.access.unit == .sending && !s.access.readbackFault && s.line.holder.isNone then
      let owner := s.access.inFlightEntry.map TxEntry.owner
      let stored : StoredFrame :=
        { kind := fl.kind, lane := s.station.lane, payload := fl.payload, order := s.line.nextOrder }
      let held := s.setLine { s.line with
        holder := some stored, nextOrder := s.line.nextOrder + 1, receiver := .idle, idle := 0 }
      let left := held.setAccess { held.access with
        queue := held.access.queue.filter fun e => !e.inFlight
        yield := true, unit := .quiet, flight := none, readback := 0, wave := [], txElapsed := 0 }
      refresh <|
        match owner with
        | some (.claim tag) => changeItem tag (fun it => { it with completed := true }) left
        | some _ | none => left
    else s

def execOwnFrameCompletion (s : State) : Host.Outcome State Fault Refusal := .next (ownFrameCompletion s)

/-- COLLISION: the jam is commanded, and the attempt count of the entry in flight rises (R145, R146). -/
def collision (s : State) : State :=
  if s.station.powerGood && s.access.unit == .sending then
    s.setAccess { s.access.jam s.station.rate with
      queue := s.access.queue.map fun e => if e.inFlight then { e with attempts := e.attempts + 1 } else e }
  else s

def execCollision (s : State) : Host.Outcome State Fault Refusal := .next (collision s)

/-- Whether a CLAIM's collision ends its item: the item's deadline has expired (R39, R47; log 23). -/
def deadlinePassed (o : Owner) (s : State) : Bool :=
  match o with
  | .claim tag =>
    match s.arrival.find tag with
    | some it => it.deadline == 0
    | none => false
  | _ => false

/-- LINE CONTENTION at an abandonment other than a CLAIM's, with source STATION (R147). -/
def contention (kind : FrameKind) (k : Option TitleKey) (s : State) : State :=
  occur .lineContention { condition := .lineContention, source := .station, title := k.map portKey, value := some kind.code } s

/-- An abandoned frame's owner acts by its kind (R147); its entry has left the queue. -/
def abandon (o : Owner) (s : State) : State :=
  match o with
  | .claim tag => decideItem tag .hold .contention s
  | .inquiry k => closeToQueued k (contention .inquiry (some k) s)
  | .closedInquiry => s
  | .answer l k =>
    contention .answer (some k) (s.setInquiry { s.inquiry with
      answers := s.inquiry.answers.filter fun x => !(x.inquirer == l && x.key == k) })
  | .correction _ _ _ =>
    contention .correction ((s.claim.ownerOf o).map Correction.key)
      (s.setClaim { s.claim with corrections := s.claim.corrections.filter fun c => c.owner != o })
  | .greeting =>
    contention .greeting none
      (s.setClaim { s.claim with greetingTimer := some (Config.greetingRequeueMs * Config.periodsPerMs) })

/-- A collided frame's entry returns to WAITING and its owner's record with it (R146). -/
def returnEntry (o : Owner) (s : State) : State :=
  let back := s.setAccess (s.access.changeEntries o fun e => { e with inFlight := false })
  match o with
  | .claim tag => changeItem tag (fun it => { it with stage := .queued }) back
  | .inquiry k => back.setInquiry (back.inquiry.change k fun q => { q with stage := .queued })
  | .closedInquiry | .answer _ _ | .correction _ _ _ | .greeting => back

/-- The entry in flight dealt with at the end of the jam of its collision (R146 to R148). -/
def endAttempt (e : TxEntry) (s : State) : State :=
  let gone := s.setAccess { s.access with queue := s.access.queue.filter fun e => !e.inFlight }
  if e.noRetry || deadlinePassed e.owner s then
    match e.owner with
    | .claim tag => decideItem tag .hold .deadline gone
    | _ => gone
  else if Config.attemptLimit ≤ e.attempts then abandon e.owner gone
  else returnEntry e.owner s

/-- JAM END: the attempt ends; after an abort nothing is left to deal with (R146, R150). -/
def jamEnd (s : State) : State :=
  if s.station.powerGood && s.access.unit == .jamming then
    let ended := s.setAccess { s.access with
      unit := .quiet, flight := none, readback := 0, readbackFault := false, wave := [], txElapsed := 0, jamLeft := 0 }
    refresh <|
      match s.access.inFlightEntry with
      | some e => endAttempt e ended
      | none => ended
  else s

def execJamEnd (s : State) : Host.Outcome State Fault Refusal := .next (jamEnd s)

end Sys2Proof.Machine
end

