-- ==== Sys2Proof/Machine/Clock.lean ====
section
/-! DEFINITION. What the block does of its own accord when no command waits (log 2): if work of its own is due, the
command that does it is queued; otherwise one period of the 24.000 MHz reference passes, and the timers count it. -/

namespace Sys2Proof.Machine

/-! ## Work that is due -/

/-- The command that hands on or checks what a character completed. -/
def dueHandOver (s : State) : Option Instr :=
  if !s.port.complete.isEmpty then some .requestComplete
  else if !s.line.atCheck.isEmpty && s.station.state.receives then some .peerFrameComplete
  else none

/-- A decided head record with room on the output stream (R49). -/
def dueRelease (s : State) : Option Instr :=
  match s.arrival.items with
  | it :: _ =>
    if it.stage == .decided && decide (dispositionCount s.port.output < Config.dispositionRoom) then
      some .dispositionRelease
    else none
  | [] => none

/-- The command that handles a stored frame, by origin and kind (R5). -/
def frameCommand (own : Bool) (kind : FrameKind) : Instr :=
  match own, kind with
  | false, .claim => .peerClaim
  | false, .correction => .peerCorrection
  | false, .answer => .peerAnswer
  | false, .inquiry => .peerInquiry
  | false, .greeting => .peerGreeting
  | true, .claim => .ownClaimApplied
  | true, .correction => .ownCorrectionApplied
  | true, .answer => .ownAnswerMerged
  | true, .inquiry => .ownInquiryHandled
  | true, .greeting => .ownGreetingHandled

/-- The tally engine is free and takes the frame that completed earliest (R4, R6, R75). -/
def dueFrame (s : State) : Option Instr :=
  if s.station.state.receives then
    (earliestFrame s.line).map fun (f, own) =>
      if !own && f.lane == s.station.lane then .duplicateLane else frameCommand own f.kind
  else none

/-- The command of a request row. -/
def RequestRow.command : RequestRow → Instr
  | .unknown => .unknownRequest
  | .present => .present
  | .configureTimes => .configureTimes
  | .configureClass => .configureClass
  | .configureRange => .configureRange
  | .configureMask => .configureMask
  | .configureStopRouting => .configureStopRouting
  | .configureAutomaticEnd => .configureAutomaticEnd
  | .commence => .commence
  | .pause => .pause
  | .resume => .resume
  | .clearWork => .clearWork
  | .loadWatchEntry => .loadWatchEntry
  | .readEntry => .readEntry
  | .readItem => .readItem
  | .readRoster => .readRoster
  | .readStatus => .readStatus
  | .readCondition => .readCondition
  | .ackAttention => .ackAttention
  | .endAttention => .endAttention
  | .clearConditions => .clearConditions

/-- The head request is handled when the output stream has room for its reply (R192). -/
def dueRequest (s : State) : Option Instr :=
  if !s.port.clearing && decide (replyCount s.port.output < Config.replyRoom) then
    s.port.buffer.head?.map fun r => r.row.command
  else none

/-- Whether a deadline at 0 still has its consequence to come: an item ON LINE needs the no-retry mark on its CLAIM in
flight (R47). -/
def deadlineDue (s : State) (it : Item) : Bool :=
  it.deadline == 0 &&
    match it.stage with
    | .inquiring | .queued | .settling => true
    | .onLine => s.access.queue.any fun e => e.owner == .claim it.tag && e.inFlight && !e.noRetry
    | .decided => false

/-- Timers that stand at 0. -/
def dueExpiry (s : State) : Option Instr :=
  if s.station.state.transmits then
    ((s.arrival.items.find? (deadlineDue s)).map fun it => .deadlineExpiry it.tag).or <|
    ((s.arrival.items.find? fun it => it.stage == .settling && it.settle == some 0).map fun it =>
      .settleExpiry it.tag).or <|
    ((s.inquiry.inquiries.find? fun q => q.stage == .window && q.window == some 0).map fun q =>
      .inquiryWindowExpiry q.key).or <|
    ((s.inquiry.answers.find? fun x => x.stage == .holding && x.holdOff == 0).map fun x =>
      .answerHoldOffExpiry x.inquirer x.key).or <|
    ((s.claim.corrections.find? fun c => c.stage == .holding && c.holdOff == 0).map fun c =>
      .correctionHoldOffExpiry c.claimLane c.claimSeq).or <|
    if s.station.state == .joining && s.claim.greetingTimer == some 0 then some .greetingRequeueExpiry else none
  else none

/-- Whether the transmitter has passed sample 9 of the stop bit of a character that has not been read back (R145). -/
def readbackMissed (s : State) : Bool :=
  let bit := bitPeriods s.station.rate
  decide (s.access.readback * Config.dockCharBits * bit + 10 * bit + 9 * bit / 16 < s.access.txElapsed)

/-- The end of an attempt or of a jam, as far as the block itself can tell (R145, R146). -/
def dueTransmission (s : State) : Option Instr :=
  match s.access.unit with
  | .sending =>
    match s.access.flight with
    | none => none
    | some fl =>
      if s.access.readbackFault then some .collision
      else if s.access.readback == fl.kind.frameLength then
        if s.line.holder.isNone then some .ownFrameCompletion else none
      else if readbackMissed s then some .collision
      else none
  | .jamming => if s.access.jamLeft = 0 then some .jamEnd else none
  | .quiet | .deferring => none

/-- Idle time of the line in whole bit times (R123). -/
def idleBits (s : State) : Nat := s.line.idle / bitPeriods s.station.rate

/-- 22 bit times of idle line: truncation, or an unconfirmed discard confirmed (R129, R132). -/
def dueIdle (s : State) : Option Instr :=
  if idlePasses s && decide (Config.settleIdleBits ≤ idleBits s) then
    match s.line.assembler with
    | .assembling _ => some .truncation
    | .muted => if s.line.discards.isEmpty then none else some .discardConfirmed
  else none

/-- The record in sending has been sent, or the gap of the lane port has passed (R190, R194). -/
def duePort (s : State) : Option Instr :=
  match s.port.output with
  | o :: _ =>
    if o.characters * Config.lanePortCharBits * Config.lanePortBitPeriods ≤ s.port.outElapsed then
      some .outputRecordSent
    else if s.port.assembler != .idle && decide (Config.gapPeriods < s.port.gap) then some .requestGapTimeout
    else none
  | [] => if s.port.assembler != .idle && decide (Config.gapPeriods < s.port.gap) then some .requestGapTimeout else none

/-- The first of the block's own commands that is due, in a fixed order of looking (log 2). -/
def dueCommand (s : State) : Option Instr :=
  (dueHandOver s).or <| (dueFrame s).or <| (dueRelease s).or <| (dueExpiry s).or <| (dueTransmission s).or <|
    (dueIdle s).or <| (duePort s).or <| dueRequest s

/-! ## One reference period -/

/-- The timers of items, inquiries, answers, corrections and the greeting count down in real time (R60, R69, R78, R89,
R95); none runs in HALTED (R117). -/
def tickTimers (s : State) : State :=
  if s.station.state.transmits then
    ((s.setArrival { s.arrival with
        items := s.arrival.items.map fun it => { it with settle := it.settle.map (· - 1) } }).setInquiry
      { inquiries := s.inquiry.inquiries.map fun q => { q with window := q.window.map (· - 1) }
        answers := s.inquiry.answers.map fun x => { x with holdOff := x.holdOff - 1 } }).setClaim
      { s.claim with
        corrections := s.claim.corrections.map fun c => { c with holdOff := c.holdOff - 1 }
        greetingTimer := s.claim.greetingTimer.map (· - 1) }
  else s

/-- The idle time of the line, the transmitter's time and the jam's (R123, R124). -/
def tickLine (s : State) : State :=
  (s.setLine { s.line with idle := if s.line.receiver == .idle then s.line.idle + 1 else s.line.idle }).setAccess
    { s.access with
      txElapsed := if transmitting s then s.access.txElapsed + 1 else s.access.txElapsed
      jamLeft := if s.access.unit == .jamming then s.access.jamLeft - 1 else s.access.jamLeft }

/-- The sending of the output stream and the gap of the lane port, in every state (R186, R189, R190). -/
def tickPort (s : State) : State :=
  s.setPort { s.port with
    outElapsed := if s.port.output.isEmpty then 0 else s.port.outElapsed + 1
    gap := if s.port.assembler == .idle then s.port.gap else s.port.gap + 1 }

/-- The two phases: reference periods within a millisecond and within a bit time. -/
def tickPhases (s : State) : State :=
  s.setClock
    { msPhase := (s.clock.msPhase + 1) % Config.periodsPerMs
      bitPhase := (s.clock.bitPhase + 1) % bitPeriods s.station.rate }

/-- The commands a period brings: a tick of the dwell clock at each millisecond, with BELT RUNNING as last sampled (R44,
log 5), and an attempt at a bit time boundary at which the conditions hold (R141). -/
def tickCommands (s : State) : List Instr :=
  (if s.clock.msPhase = 0 then [.dwellClockTick s.arrival.belt] else []) ++
    (if s.clock.bitPhase = 0 && (readyCandidate (idleBits s) s).isSome then [.attemptStart (idleBits s)] else [])

/-- One period of the reference. -/
def tick (s : State) : State :=
  let passed := tickPhases (tickPort (tickLine (tickTimers s)))
  passed.setPending (passed.pending ++ tickCommands passed)

/-- What the block does with an empty queue: nothing while POWER GOOD is deasserted (R181), else its own due work, else
a reference period (log 2). -/
def idleStep (s : State) : State :=
  if s.station.powerGood then
    match dueCommand s with
    | some c => s.setPending [c]
    | none => tick s
  else s

end Sys2Proof.Machine
end

