-- ==== Sys2Proof/Machine/ArrivalQueue.lean ====
section
/-! DEFINITION. The arrival queue manager: PRESENT, READ ITEM, release, the dwell clock, and the deadline and settle
expiries (chapter 2). -/

namespace Sys2Proof.Machine

/-- The record a PRESENT creates, before its first stage (R28, R29, R31, R32, R44). -/
def newItem (r : Request) (s : State) : Item :=
  let chars := r.payload.take 13
  { tag := s.arrival.nextTag
    chars := chars
    part := wordAt r.payload 13
    mass := massIntake (wordAt r.payload 15)
    cls := s.rules.classOfChars chars
    deadline := s.rules.dwell
    accepted := s.arrival.accepted }

/-- The record appended at the tail with the next tag (R27, R29). -/
def appendItem (it : Item) (s : State) : State :=
  s.setArrival { s.arrival with
    items := s.arrival.items ++ [it], nextTag := s.arrival.nextTag + 1, accepted := s.arrival.accepted + 1 }

/-- The lookup of an accepted item that passed the pretest and was not diverted, and its first stage (R34). A parity
error leaves it in INQUIRING with no inquiry, its reply is produced, and the station enters HALTED (R3, R185). -/
def lookupItem (tag : Byte) (k : TitleKey) (reply : State → State) (s : State) : State :=
  match lookup s.rules s.tally.table k with
  | .error bad => memoryFault bad (reply s)
  | .ok (table, found) =>
    let pinned := changeItem tag (fun it => { it with pinned := true }) (s.setTally { s.tally with table := table })
    match found with
    | some .certain => reply (queueClaim tag pinned)
    | some .unsure | none => reply (joinInquiry tag k pinned)

/-- The PRESENTED scan (R33): the winner gains a hit and is held in the record. The winner's divert flag, no when there
is no winner. -/
def presentedScan (tag : Byte) (k : TitleKey) (s : State) : State × Bool :=
  match scanFrom k .presented s.watch 0 with
  | none => (s, false)
  | some i =>
    (changeItem tag (fun it => { it with watchMatch := some i }) (s.setWatch (addHit s.watch i)),
      (s.watch.getD i {}).divert)

/-- An accepted PRESENT: record, pretest, PRESENTED scan, lookup, and the DONE reply with the tag once the record has its
first stage (R30 to R34, R107, R159). -/
def acceptItem (r : Request) (s : State) : State :=
  let it := newItem r s
  let reply := answerRequest r .done [it.tag]
  let appended := appendItem it s
  if !pretest it.chars it.part then reply (decideItem it.tag .reject .none appended)
  else
    let (scanned, divert) := presentedScan it.tag it.key appended
    if divert then reply (decideItem it.tag .hold .watch scanned)
    else lookupItem it.tag it.key reply scanned

/-- PRESENT: state, role and queue room are checked in this order (R30). -/
def present (s : State) : State :=
  serve .present (· == .run)
    (fun r s =>
      if s.station.observer then answerRequest r .refusedRole [] s
      else if Config.queueSize ≤ s.arrival.items.length then answerRequest r .refusedFull [] s
      else refresh (acceptItem r s)) s

def execPresent (s : State) : Host.Outcome State Fault Refusal := .next (present s)

/-- The record at a queue position of 1 to 8, counted from the head (R27, R54). -/
def itemAt (position : Nat) (s : State) : Option Item :=
  if 1 ≤ position then s.arrival.items[position - 1]? else none

/-- READ ITEM (R54). -/
def readItem (s : State) : State :=
  serve .readItem servedState
    (fun r s =>
      match itemAt (natAt r.payload 0) s with
      | some it => answerRequest r .done (itemContent it) s
      | none => answerRequest r .none [] s) s

def execReadItem (s : State) : Host.Outcome State Fault Refusal := .next (readItem s)

/-- Decided records at the head are released while the output stream has room (R49). -/
def dispositionRelease (s : State) : State := refresh (releaseItems s)

def execDispositionRelease (s : State) : Host.Outcome State Fault Refusal := .next (powered dispositionRelease s)

/-- One millisecond of belt-running time: the deadline of every undecided item above 0 falls by 1 (R44). -/
def lowerDeadline (it : Item) : Item :=
  if it.undecided then { it with deadline := it.deadline - 1 } else it

/-- A tick of the dwell clock: BELT RUNNING is sampled, and if it is asserted a millisecond counts (R44); in HALTED
none is counted (R117). -/
def dwellClockTick (belt : Bool) (s : State) : State :=
  s.setArrival { s.arrival with
    belt := belt
    items := if belt && s.station.state != .halted then s.arrival.items.map lowerDeadline else s.arrival.items }

def execDwellClockTick (belt : Bool) (s : State) : Host.Outcome State Fault Refusal :=
  .next (powered (dwellClockTick belt) s)

/-- The consequence of a deadline that has reached 0, by the item's stage (R45 to R48). -/
def expireDeadline (it : Item) (s : State) : State :=
  match it.stage with
  | .inquiring => decideItem it.tag .hold .deadline (leaveInquiry it.tag it.key s)
  | .queued => decideItem it.tag .hold .deadline (s.setAccess (s.access.removeEntry (.claim it.tag)))
  | .onLine =>
    s.setAccess (s.access.changeEntries (.claim it.tag) fun e => if e.inFlight then { e with noRetry := true } else e)
  | .settling => decideItem it.tag .hold .deadline s
  | .decided => s

/-- DEADLINE EXPIRY of the item with a tag, where its deadline stands at 0 (R44). -/
def deadlineExpiry (tag : Byte) (s : State) : State :=
  match s.arrival.find tag with
  | none => s
  | some it =>
    if s.station.state.transmits && it.undecided && it.deadline == 0 then refresh (expireDeadline it s) else s

def execDeadlineExpiry (tag : Byte) (s : State) : Host.Outcome State Fault Refusal :=
  .next (powered (deadlineExpiry tag) s)

/-- SETTLE EXPIRY: the ordinal the item holds is mapped under the item's class, and the item is decided (R42, R111,
R112). A cancelled timer does not expire (R48). -/
def settleExpiry (tag : Byte) (s : State) : State :=
  match s.arrival.find tag with
  | none => s
  | some it =>
    if s.station.state.transmits && it.stage == .settling && it.settle.isSome then
      refresh (decideItem tag (dispositionOf (s.rules.classAt it.cls) (it.ordinal.getD 0)) .none s)
    else s

def execSettleExpiry (tag : Byte) (s : State) : Host.Outcome State Fault Refusal :=
  .next (powered (settleExpiry tag) s)

end Sys2Proof.Machine
end

