-- ==== Sys2Proof/Machine/Configure.lean ====
section
/-! DEFINITION. The six CONFIGURE selectors, taken in CONFIGURING (R102, R103, R178). -/

namespace Sys2Proof.Machine

/-- CONFIGURE is taken in CONFIGURING alone (R102). -/
def configureState (st : StationState) : Bool := st == .configuring

/-- The reply to a CONFIGURE: selector, index, and the values as stored; DONE_CLAMPED where they differ from the values
carried (R102). -/
def configureReply (r : Request) (clamped : Bool) (stored : List Byte) (s : State) : State :=
  answerRequest r (if clamped then .doneClamped else .done) ([byteAt r.payload 0, byteAt r.payload 1] ++ stored) s

/-- CONFIGURE TIMES (R102, R103). -/
def configureTimes (s : State) : State :=
  serve .configureTimes configureState
    (fun r s =>
      let p := r.payload
      let dwell := clampTo 100 5000 (wordAt p 2).toNat
      let inquiry := clampTo 5 100 (natAt p 4)
      let settle := clampTo 5 100 (natAt p 5)
      let clamped := dwell != (wordAt p 2).toNat || inquiry != natAt p 4 || settle != natAt p 5
      configureReply r clamped (wordBytes dwell ++ [byteOf inquiry, byteOf settle])
        (s.setRules { s.rules with dwell := dwell, inquiryWindow := inquiry, settleWindow := settle })) s

def execConfigureTimes (s : State) : Host.Outcome State Fault Refusal := .next (configureTimes s)

/-- CONFIGURE CLASS k (R102, R103). -/
def configureClass (s : State) : State :=
  serve .configureClass configureState
    (fun r s =>
      let p := r.payload
      let c := clampClass (natAt p 2) (natAt p 3) (natAt p 4) (natAt p 5)
      let clamped := c.p != natAt p 2 || c.s != natAt p 3
      configureReply r clamped [byteOf c.p, byteOf c.s, byteOf c.r, byteOf c.f]
        (s.setRules { s.rules with classes := s.rules.classes.set (natAt p 1) c })) s

def execConfigureClass (s : State) : Host.Outcome State Fault Refusal := .next (configureClass s)

/-- CONFIGURE RANGE i (R102, R103). -/
def configureRange (s : State) : State :=
  serve .configureRange configureState
    (fun r s =>
      let p := r.payload
      let g := clampRange (readFlag (byteAt p 2)) (tripleAt p 3) (tripleAt p 6) (natAt p 9)
      let clamped := g.low != tripleAt p 3 || g.high != tripleAt p 6 || g.cls != natAt p 9
      configureReply r clamped ([flagByte g.enable] ++ tripleBytes g.low ++ tripleBytes g.high ++ [byteOf g.cls])
        (s.setRules { s.rules with ranges := s.rules.ranges.set (natAt p 1) g })) s

def execConfigureRange (s : State) : Host.Outcome State Fault Refusal := .next (configureRange s)

/-- CONFIGURE MASK replaces the condition mask (R178). -/
def configureMask (s : State) : State :=
  serve .configureMask configureState
    (fun r s =>
      let set := wordAt r.payload 2
      configureReply r false (wordBytes set.toNat) (s.setCond { s.cond with mask := set })) s

def execConfigureMask (s : State) : Host.Outcome State Fault Refusal := .next (configureMask s)

/-- CONFIGURE STOP ROUTING replaces the stop routing, and STOP follows at once (R175, R178). -/
def configureStopRouting (s : State) : State :=
  serve .configureStopRouting configureState
    (fun r s =>
      let set := wordAt r.payload 2
      refresh (configureReply r false (wordBytes set.toNat) (s.setCond { s.cond with routing := set }))) s

def execConfigureStopRouting (s : State) : Host.Outcome State Fault Refusal := .next (configureStopRouting s)

/-- CONFIGURE AUTOMATIC END (R174, R178). -/
def configureAutomaticEnd (s : State) : State :=
  serve .configureAutomaticEnd configureState
    (fun r s =>
      let on := readFlag (byteAt r.payload 2)
      configureReply r false [flagByte on] (s.setCond { s.cond with autoEnd := on })) s

def execConfigureAutomaticEnd (s : State) : Host.Outcome State Fault Refusal := .next (configureAutomaticEnd s)

end Sys2Proof.Machine
end

