-- ==== Sys2Proof/Machine/Frames.lean ====
section
/-! DEFINITION. The tally engine's handling of frames in line order, with every hand-off R5 names: to the watch scanner,
the claim sequencer, the inquiry unit, the arrival queue manager and station control. -/

namespace Sys2Proof.Machine

/-! ## Peer frames -/

/-- Whether a peer CLAIM found a stale basis here: the entry was held with a count above the basis (R12). -/
def staleBasis (a : Applied) (basis : Nat) : Bool :=
  a.held &&
    match a.counts with
    | some (old, _) => decide (basis < old)
    | none => false

/-- A peer CLAIM: applied, scanned, judged for the roster, and corrected if its basis was stale, the correction scheduled
in JOINING, RUN and PAUSED (R5, R11, R12, R61). Where its application meets a parity error nothing of it is handed to the
claim sequencer (R3; DESIGN CHOICE, log 39). -/
def handlePeerClaim (f : StoredFrame) (s : State) : State :=
  let c := readClaim f.payload
  match applyClaim s.rules s.tally.table f.lane c with
  | .error k => memoryFault k s
  | .ok a =>
    let applied := s.setTally { s.tally with table := a.table }
    let scanned := scanApplied c.key f.lane true a.counts applied
    let judged := rosterCheck .claim f.lane c.seq c.key scanned
    if staleBasis a c.basis && judged.station.state.transmits then
      scheduleCorrection f.lane c.seq c.key ((a.counts.map Prod.snd).getD 0) judged
    else judged

def execPeerClaim (s : State) : Host.Outcome State Fault Refusal := .next (handleFrame false .claim handlePeerClaim s)

/-- A CORRECTION of this station's claim (R41, R73): the item in SETTLING with that claim sequence takes the maximum, and
is marked corrected if its ordinal rose; otherwise LATE CORRECTION is recorded. -/
def takeCorrection (lane : Lane) (f : CorrectionFields) (s : State) : State :=
  match s.arrival.items.find? fun it => it.stage == .settling && it.claimSeq == some f.claimSeq with
  | some it =>
    let old := it.ordinal.getD 0
    changeItem it.tag (fun it => { it with
      ordinal := some (max old f.value), corrected := it.corrected || decide (old < f.value) }) s
  | none =>
    occur .lateCorrection
      { condition := .lateCorrection, source := .line lane, title := some (portKey f.key), value := some f.value } s

/-- A peer CORRECTION: applied, scanned, judged for the roster, brought to the own item it may name, and used to
suppress own pending corrections of the same claim (R5, R13, R71, R73, R74). Where its application meets a parity error
nothing of it is handed to the claim sequencer (R3; DESIGN CHOICE, log 39). -/
def handlePeerCorrection (f : StoredFrame) (s : State) : State :=
  let c := readCorrection f.payload
  match applyCorrection s.rules s.tally.table c with
  | .error k => memoryFault k s
  | .ok a =>
    let applied := s.setTally { s.tally with table := a.table }
    let scanned := scanApplied c.key f.lane false a.counts applied
    let judged := rosterCheck .correction f.lane c.seq c.key scanned
    let taken := if namesLane c.claimLane judged.station.lane then takeCorrection f.lane c judged else judged
    removeCorrections (fun p => p.suppressedBy c) taken

def execPeerCorrection (s : State) : Host.Outcome State Fault Refusal :=
  .next (handleFrame false .correction handlePeerCorrection s)

/-- A peer ANSWER: merged, scanned, and used to withdraw own pending answers it makes redundant (R5, R14, R97). -/
def handlePeerAnswer (f : StoredFrame) (s : State) : State :=
  let x := readAnswer f.payload
  match mergeAnswer s.tally.table x with
  | .error k => memoryFault k s
  | .ok a =>
    let merged := s.setTally { s.tally with table := a.table }
    let scanned := scanApplied x.key f.lane false a.counts merged
    removeAnswers (fun p => p.suppressedBy x ((findEntry a.table x.key).map Entry.count)) scanned

def execPeerAnswer (s : State) : Host.Outcome State Fault Refusal := .next (handleFrame false .answer handlePeerAnswer s)

/-- An ANSWER scheduled for a peer's INQUIRY, under the four conditions of R93. -/
def scheduleAnswer (inquirer : Lane) (k : TitleKey) (count : Option Nat) (s : State) : State :=
  if s.station.state.transmits && decide (1 ≤ count.getD 0) &&
      !s.inquiry.answers.any (fun x => x.inquirer == inquirer && x.key == k) then
    if s.inquiry.answers.length < Config.answerLimit then
      s.setInquiry { s.inquiry with answers := s.inquiry.answers ++
        [{ inquirer := inquirer, key := k, holdOff := holdOffPeriods s.station.lane }] }
    else
      occur .transmitBacklog
        { condition := .transmitBacklog, source := .line inquirer, title := some (portKey k),
          value := some FrameKind.answer.code } s
  else s

/-- A peer INQUIRY: the entry touched if held, and an ANSWER scheduled (R5, R93). -/
def handlePeerInquiry (f : StoredFrame) (s : State) : State :=
  let k := readInquiry f.payload
  match touchEntry s.tally.table k with
  | .error bad => memoryFault bad s
  | .ok (table, found) =>
    scheduleAnswer f.lane k (found.map Entry.count) (s.setTally { s.tally with table := table })

def execPeerInquiry (s : State) : Host.Outcome State Fault Refusal :=
  .next (handleFrame false .inquiry handlePeerInquiry s)

/-- A peer GREETING: the lane's record PRESENT with last sequence 0 and its role, and PEER RESTART (R63). -/
def handlePeerGreeting (f : StoredFrame) (s : State) : State :=
  occur .peerRestart
    { condition := .peerRestart, source := .line f.lane, value := some FrameKind.greeting.code }
    (s.setClaim (s.claim.setRecord f.lane { present := true, lastSeq := 0, role := readRole (byteAt f.payload 1) }))

def execPeerGreeting (s : State) : Host.Outcome State Fault Refusal :=
  .next (handleFrame false .greeting handlePeerGreeting s)

/-- A peer frame that carries this station's own lane: not applied, DUPLICATE LANE recorded, the station HALTED (R5,
R75). -/
def duplicateLane (s : State) : State :=
  if s.station.powerGood && s.station.state.receives then
    match earliestFrame s.line with
    | some (f, false) =>
      if f.lane == s.station.lane then
        refresh (haltOccurrence .duplicateLane
          { condition := .duplicateLane, source := .line s.station.lane, value := some f.kind.code }
          (s.setLine (freeFrame f s.line)))
      else s
    | some (_, true) | none => s
  else s

def execDuplicateLane (s : State) : Host.Outcome State Fault Refusal := .next (duplicateLane s)

/-! ## Own frames -/

/-- The result of an own CLAIM brought to its item (R12, R40): the ordinal, then the settle timer where the deadline is
above 0, and otherwise the decision HOLD DEADLINE, counted (R47). No undecided item with that sequence: nothing. -/
def assignOrdinal (seq : Byte) (n : Nat) (s : State) : State :=
  match s.arrival.items.find? fun it => it.undecided && it.claimSeq == some seq with
  | none => s
  | some it =>
    let counted := changeItem it.tag (fun it => { it with ordinal := some n }) s
    if 0 < it.deadline then
      changeItem it.tag (fun it => { it with
        stage := .settling, settle := some (s.rules.settleWindow * Config.periodsPerMs) }) counted
    else decideItem it.tag .hold .deadline counted

/-- The own CLAIM: applied and scanned like a peer's, and its result handed to the item (R5, R12, R40). The scans report
their WATCH MATCH before an item with deadline 0 is decided and reports its own; R5 and R164 leave the two unordered
(DESIGN CHOICE, log 35). -/
def handleOwnClaim (f : StoredFrame) (s : State) : State :=
  let c := readClaim f.payload
  match applyClaim s.rules s.tally.table f.lane c with
  | .error k => memoryFault k s
  | .ok a =>
    let applied := s.setTally { s.tally with table := a.table }
    let scanned := scanApplied c.key f.lane true a.counts applied
    assignOrdinal c.seq ((a.counts.map Prod.snd).getD 0) scanned

def execOwnClaimApplied (s : State) : Host.Outcome State Fault Refusal :=
  .next (handleFrame true .claim handleOwnClaim s)

/-- The pending correction whose frame an own CORRECTION is: the one of its claim that is SENDING under its sequence (R72;
DESIGN CHOICE, log 32). -/
def Correction.sentAs (c : Correction) (f : CorrectionFields) : Bool :=
  c.names f.claimLane f.claimSeq && c.stage == .sending && c.drawn == some f.seq

/-- The own CORRECTION: applied, scanned, its own pending correction removed (R5, R72). -/
def handleOwnCorrection (f : StoredFrame) (s : State) : State :=
  let c := readCorrection f.payload
  match applyCorrection s.rules s.tally.table c with
  | .error k => memoryFault k s
  | .ok a =>
    let applied := s.setTally { s.tally with table := a.table }
    let scanned := scanApplied c.key f.lane false a.counts applied
    scanned.setClaim { scanned.claim with
      corrections := scanned.claim.corrections.filter fun p => !p.sentAs c }

def execOwnCorrectionApplied (s : State) : Host.Outcome State Fault Refusal :=
  .next (handleFrame true .correction handleOwnCorrection s)

/-- The pending answer whose frame an own ANSWER is: the one it names, in SENDING. An answer scheduled afresh after CLEAR
WORK is not it (R98, R100). -/
def Answer.sentAs (x : Answer) (f : AnswerFields) : Bool :=
  namesLane f.inquirer x.inquirer && x.key == f.key && x.stage == .sending

/-- The own ANSWER: merged, scanned, its own pending answer removed (R5, R98). -/
def handleOwnAnswer (f : StoredFrame) (s : State) : State :=
  let x := readAnswer f.payload
  match mergeAnswer s.tally.table x with
  | .error k => memoryFault k s
  | .ok a =>
    let merged := s.setTally { s.tally with table := a.table }
    let scanned := scanApplied x.key f.lane false a.counts merged
    scanned.setInquiry { scanned.inquiry with
      answers := scanned.inquiry.answers.filter fun p => !p.sentAs x }

def execOwnAnswerMerged (s : State) : Host.Outcome State Fault Refusal :=
  .next (handleFrame true .answer handleOwnAnswer s)

/-- The own INQUIRY: an inquiry for its title in SENDING enters WINDOW, its timer at the configured window (R87, R115). -/
def handleOwnInquiry (f : StoredFrame) (s : State) : State :=
  let window := s.rules.inquiryWindow * Config.periodsPerMs
  s.setInquiry (s.inquiry.change (readInquiry f.payload) fun q =>
    if q.stage == .sending then { q with stage := .window, window := some window } else q)

def execOwnInquiryHandled (s : State) : Host.Outcome State Fault Refusal :=
  .next (handleFrame true .inquiry handleOwnInquiry s)

/-- HELD corrections placed in the transmit queue, in the order in which their hold-offs expired (R69, R77). -/
def releaseHeld (s : State) : State :=
  let held := s.claim.corrections.filter fun c => c.stage == .held
  (s.setClaim { s.claim with
    corrections := s.claim.corrections.map fun c => if c.stage == .held then { c with stage := .queued } else c }).setAccess
    (held.foldl (fun a c => a.placeLast c.owner) s.access)

/-- The own GREETING: JOINING ends in RUN, the own tally sequence is 0, the own roster record PRESENT with the strapped
role, and HELD corrections are queued (R66, R77). -/
def handleOwnGreeting (_ : StoredFrame) (s : State) : State :=
  let joined :=
    if s.station.state == .joining then s.setStation { s.station with state := .run } else s
  let role := if s.station.observer then Role.observer else Role.lane
  releaseHeld (joined.setClaim
    { joined.claim.setRecord s.station.lane { present := true, lastSeq := 0, role := role } with ownSeq := 0 })

def execOwnGreetingHandled (s : State) : Host.Outcome State Fault Refusal :=
  .next (handleFrame true .greeting handleOwnGreeting s)

end Sys2Proof.Machine
end

