-- ==== Sys2Proof/Machine/LanePort.lean ====
section
/-! DEFINITION. The lane port: the request assembler, the request input buffer, and the sending of the output stream
(chapter 11). -/

namespace Sys2Proof.Machine

/-- One lane port character at the request assembler (R190): the new assembler, and the record it completes. -/
def assembleRequest (a : RequestAssembler) (b : Byte) : RequestAssembler × Option Request :=
  match a with
  | .idle => (.assembling b none [] 0, none)
  | .muted => (.muted, none)
  | .assembling k none _ _ =>
    if b == 0 then (.idle, some { kind := k, length := 0, payload := [] }) else (.assembling k (some b) [] 0, none)
  | .assembling k (some len) p n =>
    let stored := if len.toNat ≤ Config.maxPayload then p ++ [b] else p
    if n + 1 = len.toNat then (.idle, some { kind := k, length := len, payload := stored })
    else (.assembling k (some len) stored (n + 1), none)

/-- A lane port character (R190). It ends for the count of the gap where it is reported, not at the end of its stop bit's bit
time (DESIGN CHOICE, log 20). -/
def requestCharacterReceived (b : Byte) (s : State) : State :=
  let (a, done) := assembleRequest s.port.assembler b
  s.setPort { s.port with assembler := a, gap := 0, complete := s.port.complete ++ done.toList }

def execRequestCharacterReceived (b : Byte) (s : State) : Host.Outcome State Fault Refusal :=
  .next (powered (requestCharacterReceived b) s)

/-- A complete record enters the request input buffer, or is dropped with PORT OVERRUN where the buffer holds 4 (R192). -/
def requestComplete (s : State) : State :=
  match s.port.complete with
  | [] => s
  | r :: rest =>
    let handed := s.setPort { s.port with complete := rest }
    if s.port.buffer.length < Config.bufferSize then
      handed.setPort { handed.port with buffer := s.port.buffer ++ [r] }
    else
      refresh (occur .portOverrun { condition := .portOverrun, source := .port, value := some r.kind.toNat } handed)

def execRequestComplete (s : State) : Host.Outcome State Fault Refusal := .next (powered requestComplete s)

/-- A gap of more than 2 ms discards a partial record; the assembler becomes IDLE (R190). -/
def requestGapTimeout (s : State) : State := s.setPort { s.port with assembler := .idle, gap := 0 }

def execRequestGapTimeout (s : State) : Host.Outcome State Fault Refusal := .next (powered requestGapTimeout s)

/-- A stop bit read 0 discards a partial record; the assembler becomes MUTED. The gap starts again at the report
of this character as at that of a complete one, which R190 leaves open (DESIGN CHOICE, log 20). -/
def lanePortFramingError (s : State) : State := s.setPort { s.port with assembler := .muted, gap := 0 }

def execLanePortFramingError (s : State) : Host.Outcome State Fault Refusal := .next (powered lanePortFramingError s)

/-- A request of no row's kind is answered REFUSED_FORM in every state (R191). -/
def unknownRequest (s : State) : State :=
  serve .unknown (fun _ => true) (fun r s => answerRequest r .refusedForm [] s) s

def execUnknownRequest (s : State) : Host.Outcome State Fault Refusal := .next (unknownRequest s)

/-- The record in sending has been sent and leaves the output stream (R194). -/
def outputRecordSent (s : State) : State :=
  s.setPort { s.port with output := s.port.output.drop 1, outElapsed := 0 }

def execOutputRecordSent (s : State) : Host.Outcome State Fault Refusal := .next (powered outputRecordSent s)

end Sys2Proof.Machine
end

