-- ==== Sys2Proof/Machine/Station.lean ====
section
/-! DEFINITION. Station control: POWER GOOD, LANE RESET, COMMENCE, PAUSE, RESUME and CLEAR WORK (chapter 10). -/

namespace Sys2Proof.Machine

/-- POWER GOOD rises: the straps are sampled, every block takes its POWER GOOD value, and the station is CONFIGURING, or
STRAP FAULT if the lane strap is 0, where the receiver does not run (R181, R182). The pins' last sampled level, the
waiting commands and the count of free values drawn are not the station's work and stay. -/
def powerUp (lane : Lane) (rate : BitVec 2) (observer : Bool) (s : State) : State :=
  { station := { powerGood := true, state := if lane == 0 then .strapFault else .configuring,
                 lane := lane, rate := rate, observer := observer }
    arrival := { belt := s.arrival.belt }
    line := { receiver := if lane == 0 then .stopped else .waitingHigh }
    draws := s.draws
    pending := s.pending }

def execPowerGoodRise (lane : Lane) (rate : BitVec 2) (observer : Bool) (s : State) :
    Host.Outcome State Fault Refusal :=
  .next (powerUp lane rate observer s)

/-- POWER GOOD falls: the station is inactive, releases the dock line, and holds ATTN and STOP deasserted (R181). The
rest of the state has no effect until the next rising edge replaces it (log 21). -/
def powerDown (s : State) : State :=
  let off := s.setStation { s.station with powerGood := false }
  (off.setAccess { off.access with unit := .quiet, flight := none }).setCond (off.cond.drive off.station)

def execPowerGoodFall (s : State) : Host.Outcome State Fault Refusal := .next (powered powerDown s)

/-- The output stream at LANE RESET: a record whose first character has been sent is finished, every other is discarded
(R195, log 29). -/
def LanePort.reset (p : LanePort) : LanePort :=
  let started := decide (Config.lanePortCharBits * Config.lanePortBitPeriods ≤ p.outElapsed)
  let kept := if started then p.output.take 1 else []
  { output := kept, outElapsed := if kept.isEmpty then 0 else p.outElapsed }

/-- LANE RESET in every state but STRAP FAULT: CONFIGURING, each block at its LANE RESET value (R187): kept are the
straps, the configuration of the rule unit and of the condition unit, and the jam of a frame in flight (R150). A frame
complete in form that has not been checked, and a request that has not reached the buffer, are dropped silently (DESIGN
CHOICE, log 43). -/
def laneReset (s : State) : State :=
  if s.station.state == .strapFault then s
  else
    refresh
      { s with
        station := { s.station with state := .configuring }
        tally := {}
        arrival := { belt := s.arrival.belt }
        claim := {}
        inquiry := {}
        line := {}
        access := { s.access.abort s.station.rate with yield := false, placements := 0 }
        watch := List.replicate 16 {}
        cond := { mask := s.cond.mask, routing := s.cond.routing, autoEnd := s.cond.autoEnd }
        port := s.port.reset }

def execLaneReset (s : State) : Host.Outcome State Fault Refusal := .next (powered laneReset s)

/-- The GREETING queued in the line access unit (R76, R78, R139). -/
def placeGreeting (s : State) : State := s.setAccess (s.access.placeEntry .greeting 0)

/-- The station enters another state of 10.2. -/
def enterState (st : StationState) (s : State) : State := s.setStation { s.station with state := st }

/-- COMMENCE in CONFIGURING: DONE, the station enters JOINING and the GREETING is queued (R76, R183). -/
def commence (s : State) : State :=
  serve .commence (· == .configuring)
    (fun r s => refresh (answerRequest r .done [] (placeGreeting (enterState .joining s)))) s

def execCommence (s : State) : Host.Outcome State Fault Refusal := .next (commence s)

/-- PAUSE and RESUME are taken in RUN and PAUSED (R184). -/
def pauseStates (st : StationState) : Bool := st == .run || st == .paused

/-- PAUSE in RUN enters PAUSED, and every deferred condition becomes pending (R167, R184). -/
def pause (s : State) : State :=
  serve .pause pauseStates
    (fun r s =>
      let paused :=
        if s.station.state == .run then (enterState .paused s).setCond s.cond.releaseDeferred else s
      refresh (answerRequest r .done [] paused)) s

def execPause (s : State) : Host.Outcome State Fault Refusal := .next (pause s)

/-- RESUME in PAUSED enters RUN (R184). -/
def resume (s : State) : State :=
  serve .resume pauseStates (fun r s => refresh (answerRequest r .done [] (enterState .run s))) s

def execResume (s : State) : Host.Outcome State Fault Refusal := .next (resume s)

/-- Whether a completed own GREETING waits in the own-frame holder (R78). -/
def greetingCompleted (s : State) : Bool :=
  match s.line.holder with
  | some f => f.kind == .greeting
  | none => false

/-- CLEAR WORK in JOINING queues a new GREETING, unless the re-queue timer runs or a completed own GREETING waits (R78). -/
def requeueGreeting (s : State) : State :=
  if s.station.state == .joining && s.claim.greetingTimer.isNone && !greetingCompleted s then placeGreeting s else s

/-- CLEAR WORK (R188): the frame in flight jammed and the queue emptied, own inquiries, answers and corrections removed,
every undecided item decided HOLD CLEARED, every record released, then the sets cleared and the reply produced, at once
or after the last DISPOSITION record has found room (R52). -/
def clearWork (s : State) : State :=
  serve .clearWork StationState.transmits
    (fun _ s =>
      let aborted := s.setAccess (s.access.abort s.station.rate)
      let dropped := (aborted.setClaim { aborted.claim with corrections := [] }).setInquiry {}
      let decided := decideAll .cleared (requeueGreeting dropped)
      refresh (releaseItems (decided.setPort { decided.port with clearing := true }))) s

def execClearWork (s : State) : Host.Outcome State Fault Refusal := .next (clearWork s)

end Sys2Proof.Machine
end

