-- ==== Sys2Proof/Machine/Timers.lean ====
section
/-! DEFINITION. The expiries of the inquiry windows, the hold-offs and the greeting re-queue timer (R69, R78, R89, R95).
A timer that does not run does not expire: its command then changes nothing. -/

namespace Sys2Proof.Machine

/-- INQUIRY WINDOW EXPIRY: the entry becomes CERTAIN and is touched, the waiting items go to QUEUED with their CLAIMs
queued in arrival order, and the inquiry closes (R18, R35, R89). -/
def inquiryWindowExpiry (k : TitleKey) (s : State) : State :=
  match s.inquiry.find k with
  | none => s
  | some q =>
    if s.station.state.transmits && q.stage == .window && q.window.isSome then
      refresh (closeToQueued k (s.setTally { s.tally with table := makeCertain s.tally.table k }))
    else s

def execInquiryWindowExpiry (k : TitleKey) (s : State) : Host.Outcome State Fault Refusal :=
  .next (powered (inquiryWindowExpiry k) s)

/-- ANSWER HOLD-OFF EXPIRY: the ANSWER is placed behind the answers in the queue (R95, R139). -/
def answerHoldOffExpiry (inquirer : Lane) (k : TitleKey) (s : State) : State :=
  if s.station.state.transmits &&
      s.inquiry.answers.any (fun x => x.inquirer == inquirer && x.key == k && x.stage == .holding) then
    refresh ((s.setInquiry { s.inquiry with
      answers := s.inquiry.answers.map fun x =>
        if x.inquirer == inquirer && x.key == k then { x with stage := .queued, holdOff := 0 } else x }).setAccess
      (s.access.placeLast (.answer inquirer k)))
  else s

def execAnswerHoldOffExpiry (inquirer : Lane) (k : TitleKey) (s : State) : Host.Outcome State Fault Refusal :=
  .next (powered (answerHoldOffExpiry inquirer k) s)

/-- The pending correction whose hold-off a claim's expiry ends: the first in HOLDING for that claim, which was scheduled
before any other (R69; DESIGN CHOICE, log 32). -/
def ClaimSequencer.holdingFor (c : ClaimSequencer) (lane : Lane) (seq : Byte) : Option Correction :=
  c.corrections.find? fun x => x.claimLane == lane && x.claimSeq == seq && x.stage == .holding

/-- CORRECTION HOLD-OFF EXPIRY: the CORRECTION is placed behind the corrections in the queue, or HELD while the station
is JOINING, where HELD records keep the order of their expiries (R69, log 26). One record alone is concerned. -/
def correctionHoldOffExpiry (lane : Lane) (seq : Byte) (s : State) : State :=
  match s.claim.holdingFor lane seq with
  | none => s
  | some c =>
    if s.station.state == .joining then
      s.setClaim { s.claim with
        corrections := s.claim.corrections.erase c ++ [{ c with stage := .held, holdOff := 0 }] }
    else if s.station.state.transmits then
      refresh ((s.setClaim { s.claim with
        corrections := s.claim.corrections.replace c { c with stage := .queued, holdOff := 0 } }).setAccess
        (s.access.placeLast c.owner))
    else s

def execCorrectionHoldOffExpiry (lane : Lane) (seq : Byte) (s : State) : Host.Outcome State Fault Refusal :=
  .next (powered (correctionHoldOffExpiry lane seq) s)

/-- GREETING RE-QUEUE EXPIRY: a new GREETING is queued with attempt count 0 (R78). -/
def greetingRequeueExpiry (s : State) : State :=
  if s.station.state == .joining && s.claim.greetingTimer.isSome then
    refresh (placeGreeting (s.setClaim { s.claim with greetingTimer := none }))
  else s

def execGreetingRequeueExpiry (s : State) : Host.Outcome State Fault Refusal := .next (powered greetingRequeueExpiry s)

end Sys2Proof.Machine
end

