-- ==== Sys2Proof/Machine/Attention.lean ====
section
/-! DEFINITION. The requests of the condition unit: READ CONDITION, ACK ATTENTION, END ATTENTION and CLEAR CONDITIONS
(9.5, 9.7). -/

namespace Sys2Proof.Machine

/-- A reply that carries a detail record. The free bytes of its open fields are drawn anew (log 10). -/
def replyDetail (r : Request) (flags : Byte) (d : Detail) (s : State) : State :=
  answerRequest r .done (detailContent (fun i => Config.openByte (s.draws + i)) flags d) (s.setDraws (s.draws + 16))

/-- READ CONDITION: the detail and four flags of a condition whose detail is filled, NONE otherwise (R177). -/
def readCondition (s : State) : State :=
  serve .readCondition servedState
    (fun r s =>
      match conditionOfCode (natAt r.payload 0) with
      | none => answerRequest r .none [] s
      | some c =>
        match s.cond.details.getD c.index none with
        | some d => replyDetail r (flagsByte s.cond c) d s
        | none => answerRequest r .none [] s) s

def execReadCondition (s : State) : Host.Outcome State Fault Refusal := .next (readCondition s)

/-- A pending condition taken: it leaves the pending set and, with automatic end off, is in service (R172, R174). -/
def ConditionUnit.acknowledge (u : ConditionUnit) (c : Condition) : ConditionUnit :=
  { u with
    pending := takeFrom u.pending c
    inService := if u.autoEnd then u.inService else addTo u.inService c }

/-- ACK ATTENTION takes the highest-ranked pending condition (R172). Whether the flags byte shows the flags as left or
as found is free (log 12). A pending condition always has its detail filled; were it empty, the reply would carry the
condition with source STATION and no fields (log 15). -/
def ackAttention (s : State) : State :=
  serve .ackAttention servedState
    (fun r s =>
      match highest s.cond.pending with
      | none => answerRequest r .none [] s
      | some c =>
        let taken := s.cond.acknowledge c
        let flags := flagsByte (if Config.ackShowsFlagsAfter s.draws then taken else s.cond) c
        let d := (s.cond.details.getD c.index none).getD { condition := c, source := .station }
        refresh (replyDetail r flags d (s.setCond taken))) s

def execAckAttention (s : State) : Host.Outcome State Fault Refusal := .next (ackAttention s)

/-- The condition END ATTENTION ends: the named one if in service, or without a code the highest-ranked in service
(R173). -/
def endTarget (u : ConditionUnit) (code : Nat) : Option Condition :=
  if code = 0 then highest u.inService
  else (conditionOfCode code).filter (has u.inService)

/-- END ATTENTION (R173). -/
def endAttention (s : State) : State :=
  serve .endAttention servedState
    (fun r s =>
      match endTarget s.cond (natAt r.payload 0) with
      | none => answerRequest r .none [] s
      | some c =>
        refresh (answerRequest r .done [byteOf c.rank]
          (s.setCond { s.cond with inService := takeFrom s.cond.inService c }))) s

def execEndAttention (s : State) : Host.Outcome State Fault Refusal := .next (endAttention s)

/-- CLEAR CONDITIONS and LOAD WATCH ENTRY are taken in CONFIGURING, JOINING, RUN and PAUSED (R160, R176). -/
def loadStates (st : StationState) : Bool := st.receives

/-- CLEAR CONDITIONS clears the recorded and deferred flags of a set (R176). -/
def clearConditions (s : State) : State :=
  serve .clearConditions loadStates
    (fun r s =>
      let set := wordAt r.payload 0
      answerRequest r .done []
        (s.setCond { s.cond with
          recorded := s.cond.recorded &&& ~~~set, deferred := s.cond.deferred &&& ~~~set })) s

def execClearConditions (s : State) : Host.Outcome State Fault Refusal := .next (clearConditions s)

end Sys2Proof.Machine
end

