-- ==== Sys2Proof/Machine/WatchAndReads.lean ====
section
/-! DEFINITION. LOAD WATCH ENTRY (R160) and the reads of the tally, the roster and the status (R24, R67, R193). -/

namespace Sys2Proof.Machine

/-- The watch entry a LOAD carries; bits 4 to 7 of the event mask are stored as 0, hits are 0 (R160). -/
def loadedEntry (p : List Byte) : WatchEntry :=
  { valid := readFlag (byteAt p 1)
    digits := ((p.drop 2).take 13).map digitOfChar
    part := if wordAt p 15 == 65535 then none else some (wordAt p 15)
    events := (byteAt p 17).extractLsb' 0 4
    divert := readFlag (byteAt p 18)
    endOfList := readFlag (byteAt p 19) }

/-- LOAD WATCH ENTRY replaces one entry whole; the reply carries the entry as it stood, its hits included (R160). -/
def loadWatchEntry (s : State) : State :=
  serve .loadWatchEntry loadStates
    (fun r s =>
      let i := natAt r.payload 0
      answerRequest r .done (watchContent (byteAt r.payload 0) (s.watch.getD i {}))
        (s.setWatch (s.watch.set i (loadedEntry r.payload)))) s

def execLoadWatchEntry (s : State) : Host.Outcome State Fault Refusal := .next (loadWatchEntry s)

/-- READ ENTRY: the entry for a title key, untouched, or NONE; an identifier with a non-digit matches none, and a parity
error replies NONE and halts the station (R3, R24, R193). -/
def readEntry (s : State) : State :=
  serve .readEntry servedState
    (fun r s =>
      let chars := r.payload.take 13
      let k := keyOfChars chars (wordAt r.payload 13)
      match if chars.all isDigitChar then findEntry s.tally.table k else none with
      | none => answerRequest r .none [] s
      | some e =>
        if e.parityOk then answerRequest r .done (entryContent e (recencyOf s.tally.table k)) s
        else refresh (memoryFault e.key (answerRequest r .none [] s))) s

def execReadEntry (s : State) : Host.Outcome State Fault Refusal := .next (readEntry s)

/-- READ ROSTER: a lane's state, last sequence and role (R67). -/
def readRoster (s : State) : State :=
  serve .readRoster servedState
    (fun r s =>
      let x := rosterRecord (BitVec.ofNat 5 (natAt r.payload 0)) s
      answerRequest r .done [flagByte x.present, x.lastSeq, x.role.code] s) s

def execReadRoster (s : State) : Host.Outcome State Fault Refusal := .next (readRoster s)

/-- The content of a READ STATUS reply: state, epoch, queue occupancy and the four sets (R193, 11.5.3). -/
def statusContent (s : State) : List Byte :=
  [s.station.state.code] ++ wordBytes s.tally.epoch.toNat ++ [byteOf s.arrival.items.length] ++
    wordBytes s.cond.recorded.toNat ++ wordBytes s.cond.deferred.toNat ++ wordBytes s.cond.pending.toNat ++
    wordBytes s.cond.inService.toNat

/-- READ STATUS (R193). -/
def readStatus (s : State) : State :=
  serve .readStatus servedState (fun r s => answerRequest r .done (statusContent s) s) s

def execReadStatus (s : State) : Host.Outcome State Fault Refusal := .next (readStatus s)

end Sys2Proof.Machine
end

