-- ==== Sys2Proof/Machine/Dispatch.lean ====
section
/-! DEFINITION. The meaning of every command: one arm per constructor, each one direct call of the command's meaning. -/

namespace Sys2Proof.Machine

def exec (i : Instr) (s : State) : Host.Outcome State Fault Refusal :=
  match i with
  | .powerGoodRise lane rate observer => Sys2Proof.Machine.execPowerGoodRise lane rate observer s
  | .powerGoodFall => Sys2Proof.Machine.execPowerGoodFall s
  | .laneReset => Sys2Proof.Machine.execLaneReset s
  | .requestComplete => Sys2Proof.Machine.execRequestComplete s
  | .requestGapTimeout => Sys2Proof.Machine.execRequestGapTimeout s
  | .lanePortFramingError => Sys2Proof.Machine.execLanePortFramingError s
  | .unknownRequest => Sys2Proof.Machine.execUnknownRequest s
  | .present => Sys2Proof.Machine.execPresent s
  | .configureTimes => Sys2Proof.Machine.execConfigureTimes s
  | .configureClass => Sys2Proof.Machine.execConfigureClass s
  | .configureRange => Sys2Proof.Machine.execConfigureRange s
  | .configureMask => Sys2Proof.Machine.execConfigureMask s
  | .configureStopRouting => Sys2Proof.Machine.execConfigureStopRouting s
  | .configureAutomaticEnd => Sys2Proof.Machine.execConfigureAutomaticEnd s
  | .commence => Sys2Proof.Machine.execCommence s
  | .pause => Sys2Proof.Machine.execPause s
  | .resume => Sys2Proof.Machine.execResume s
  | .clearWork => Sys2Proof.Machine.execClearWork s
  | .loadWatchEntry => Sys2Proof.Machine.execLoadWatchEntry s
  | .readEntry => Sys2Proof.Machine.execReadEntry s
  | .readItem => Sys2Proof.Machine.execReadItem s
  | .readRoster => Sys2Proof.Machine.execReadRoster s
  | .readStatus => Sys2Proof.Machine.execReadStatus s
  | .readCondition => Sys2Proof.Machine.execReadCondition s
  | .ackAttention => Sys2Proof.Machine.execAckAttention s
  | .endAttention => Sys2Proof.Machine.execEndAttention s
  | .clearConditions => Sys2Proof.Machine.execClearConditions s
  | .outputRecordSent => Sys2Proof.Machine.execOutputRecordSent s
  | .dispositionRelease => Sys2Proof.Machine.execDispositionRelease s
  | .headerReceived data noisy => Sys2Proof.Machine.execHeaderReceived data noisy s
  | .dockFramingError => Sys2Proof.Machine.execDockFramingError s
  | .lineBreak => Sys2Proof.Machine.execBreak s
  | .truncation => Sys2Proof.Machine.execTruncation s
  | .discardConfirmed => Sys2Proof.Machine.execDiscardConfirmed s
  | .peerFrameComplete => Sys2Proof.Machine.execPeerFrameComplete s
  | .peerClaim => Sys2Proof.Machine.execPeerClaim s
  | .peerCorrection => Sys2Proof.Machine.execPeerCorrection s
  | .peerAnswer => Sys2Proof.Machine.execPeerAnswer s
  | .peerInquiry => Sys2Proof.Machine.execPeerInquiry s
  | .peerGreeting => Sys2Proof.Machine.execPeerGreeting s
  | .duplicateLane => Sys2Proof.Machine.execDuplicateLane s
  | .ownClaimApplied => Sys2Proof.Machine.execOwnClaimApplied s
  | .ownCorrectionApplied => Sys2Proof.Machine.execOwnCorrectionApplied s
  | .ownAnswerMerged => Sys2Proof.Machine.execOwnAnswerMerged s
  | .ownInquiryHandled => Sys2Proof.Machine.execOwnInquiryHandled s
  | .ownGreetingHandled => Sys2Proof.Machine.execOwnGreetingHandled s
  | .attemptStart idleBits => Sys2Proof.Machine.execAttemptStart idleBits s
  | .ownFrameCompletion => Sys2Proof.Machine.execOwnFrameCompletion s
  | .collision => Sys2Proof.Machine.execCollision s
  | .jamEnd => Sys2Proof.Machine.execJamEnd s
  | .deadlineExpiry tag => Sys2Proof.Machine.execDeadlineExpiry tag s
  | .settleExpiry tag => Sys2Proof.Machine.execSettleExpiry tag s
  | .inquiryWindowExpiry title => Sys2Proof.Machine.execInquiryWindowExpiry title s
  | .answerHoldOffExpiry inquirer title => Sys2Proof.Machine.execAnswerHoldOffExpiry inquirer title s
  | .correctionHoldOffExpiry claimLane claimSeq => Sys2Proof.Machine.execCorrectionHoldOffExpiry claimLane claimSeq s
  | .greetingRequeueExpiry => Sys2Proof.Machine.execGreetingRequeueExpiry s
  | .dwellClockTick beltRunning => Sys2Proof.Machine.execDwellClockTick beltRunning s
  | .payloadCharacterReceived data noisy => Sys2Proof.Machine.execPayloadCharacterReceived data noisy s
  | .requestCharacterReceived data => Sys2Proof.Machine.execRequestCharacterReceived data s
  | .startBitSeen => Sys2Proof.Machine.execStartBitSeen s
  | .breakEnd => Sys2Proof.Machine.execBreakEnd s
  | .highLineWaitEnd => Sys2Proof.Machine.execHighLineWaitEnd s

end Sys2Proof.Machine
end

