-- ==== Sys2Proof/Machine/Sampling.lean ====
section
/-! DEFINITION. The two receivers as they take the samples of their lines, 16 to each bit time, and the commands they
report (R120 to R123, R190, log 18); and the levels that the two transmitters put on their lines (R118, R124, R189). -/

namespace Sys2Proof.Machine

/-! ## The dock line receiver -/

/-- Where the dock line receiver stands (R120 to R122): in its first wait with a number of consecutive samples of 1;
watching for a falling edge with the last sample; in a character with its samples from sample 1 of the start bit on; or in
a break with its last two samples. -/
inductive Sampler where
  | waitingHigh (ones : Nat)
  | watching (last : Bool)
  | inCharacter (samples : List Bool)
  | inBreak (before last : Bool)
  deriving DecidableEq, Repr

/-- Consecutive samples of 1 at which the first wait ends: the line reads high at the third of them, and 11 bit times of
16 samples are counted from there (R120; DEDUCED, log 38). -/
def highWaitSamples : Nat := 2 + 16 * Config.dockCharBits

/-- The receiver on one more sample of a character: sample 9 of the start bit validates it or shows a false start; sample
9 of the stop bit completes a character; after a stop bit of 0 the line reads high, or 13 bit times pass (R120 to
R122). They have passed with the 208th sample, and a line that reads high at that sample does so in time (DESIGN CHOICE,
log 41). -/
def Sampler.inCharacterOn (samples : List Bool) : Sampler × List Instr :=
  let n := samples.length
  let last := samples.getD (n - 1) true
  let high := samples.getD (n - 3) false && samples.getD (n - 2) false && last
  if n = 9 then
    if bitValue samples 0 then (.watching last, []) else (.inCharacter samples, [.startBitSeen])
  else if n < 169 then (.inCharacter samples, [])
  else if n = 169 then
    if bitValue samples 10 then (.watching last, (receive samples).command.toList) else (.inCharacter samples, [])
  else if high then (.watching last, [.dockFramingError])
  else if n < 208 then (.inCharacter samples, [])
  else (.inBreak (samples.getD (n - 2) false) last, [.lineBreak])

/-- The dock line receiver on one sample: where it then stands, and the commands it reports (R120 to R123). -/
def Sampler.take (r : Sampler) (b : Bool) : Sampler × List Instr :=
  match r with
  | .waitingHigh ones =>
    if !b then (.waitingHigh 0, [])
    else if ones + 1 < highWaitSamples then (.waitingHigh (ones + 1), [])
    else (.watching b, [.highLineWaitEnd])
  | .watching last => if last && !b then (.inCharacter [b], []) else (.watching b, [])
  | .inCharacter samples => Sampler.inCharacterOn (samples ++ [b])
  | .inBreak before last => if before && last && b then (.watching b, [.breakEnd]) else (.inBreak last b, [])

/-- A receiver on a run of samples: where it then stands, and every command it reported. -/
def takeAll {R : Type} (take : R → Bool → R × List Instr) : R → List Bool → R × List Instr
  | r, [] => (r, [])
  | r, b :: rest =>
    let (next, first) := take r b
    let (final, others) := takeAll take next rest
    (final, first ++ others)

/-- The dock line receiver on a run of samples (R120 to R123). -/
def sampleDockLine (r : Sampler) (samples : List Bool) : Sampler × List Instr := takeAll Sampler.take r samples

/-! ## The lane port receiver -/

/-- Where the lane port receiver stands: watching for a falling edge, or in a character (R190). -/
inductive PortSampler where
  | watching (last : Bool)
  | inCharacter (samples : List Bool)
  deriving DecidableEq, Repr

/-- The lane port receiver on one more sample of a character of 10 bit times: sample 9 of the start bit validates it as
the dock line receiver does; sample 9 of the stop bit ends it, complete or in a framing error, and from the next sample on the
receiver looks for a falling edge again (R189, R190; the moment after the stop bit is a DESIGN CHOICE, log 40). -/
def PortSampler.inCharacterOn (samples : List Bool) : PortSampler × List Instr :=
  let n := samples.length
  let last := samples.getD (n - 1) true
  if n = 9 then if bitValue samples 0 then (.watching last, []) else (.inCharacter samples, [])
  else if n < 153 then (.inCharacter samples, [])
  else if bitValue samples 9 then
    (.watching last,
      [.requestCharacterReceived (byteOf (byteOfBits ((List.range 8).map fun k => bitValue samples (k + 1))))])
  else (.watching last, [.lanePortFramingError])

/-- The lane port receiver on one sample (R190). -/
def PortSampler.take (r : PortSampler) (b : Bool) : PortSampler × List Instr :=
  match r with
  | .watching last => if last && !b then (.inCharacter [b], []) else (.watching b, [])
  | .inCharacter samples => PortSampler.inCharacterOn (samples ++ [b])

/-- The lane port receiver on a run of samples (R190). -/
def sampleLanePort (r : PortSampler) (samples : List Bool) : PortSampler × List Instr := takeAll PortSampler.take r samples

/-! ## The levels of the lines -/

/-- The level the transmitter puts on the dock line: released at rest, and while it sends or jams the bit of its wave
(R118, R124). Without POWER GOOD the line is released (R181). -/
def dockLevel (s : State) : Bool :=
  match s.station.powerGood, s.access.unit with
  | true, .sending | true, .jamming => levelAt (bitPeriods s.station.rate) s.access.wave s.access.txElapsed
  | true, .quiet | true, .deferring | false, _ => true

/-- The level of the lane port's output: the bit of the record in sending, or the level of a stop bit with nothing to send
(R189, R194). Without POWER GOOD nothing is sent (R195). -/
def portLevel (s : State) : Bool :=
  match s.station.powerGood, s.port.output with
  | true, o :: _ => levelAt Config.lanePortBitPeriods o.bits s.port.outElapsed
  | true, [] | false, _ => true

end Sys2Proof.Machine
end

