-- ==== Sys2Proof/Safety.lean ====
section
/-! DEFINITION. The terms in which claims are made: a request in handling and its reply, a frame the tally engine takes, and
the invariants of a sound state. Each invariant names the rule that promises it. -/

namespace Sys2Proof.Machine

/-! ## Situations -/

/-- The request `r` is in handling and its handling can begin, `rest` being behind it in the buffer (R192). -/
def Serving (s : State) (r : Request) (rest : List Request) : Prop :=
  s.station.powerGood = true ∧ s.port.clearing = false ∧ replyCount s.port.output < Config.replyRoom ∧
    s.port.buffer = r :: rest

/-- A reply with this payload produced, the request at the head gone from the buffer (R192, 11.5.3). -/
def State.replied (s : State) (rest : List Request) (payload : List Byte) : State :=
  { s with port := { s.port with buffer := rest, output := s.port.output ++ [{ kind := 240, payload := payload }] } }

/-- The frame `f` is the next the tally engine takes, from the own-frame holder if `own` (R4, R6). -/
def Takes (own : Bool) (f : StoredFrame) (s : State) : Prop :=
  s.station.powerGood = true ∧ s.station.state.receives = true ∧ earliestFrame s.line = some (f, own)

/-- The state with the store of a handled frame free (R4). -/
def State.freed (s : State) (f : StoredFrame) : State := { s with line := freeFrame f s.line }

/-- The station receives, its receiver is past its wait for high line, and it is not transmitting (R120, R134). -/
def Listening (s : State) : Prop :=
  s.station.powerGood = true ∧ s.station.state.receives = true ∧
    (s.line.receiver = .idle ∨ s.line.receiver = .inCharacter) ∧ s.access.unit ≠ .sending ∧ s.access.unit ≠ .jamming

/-- The record a decision leaves of an undecided item, without its presented watch match if the item was decided by a
halt or by CLEAR WORK (R43). -/
def Item.held (it : Item) (reason : HoldReason) : Item :=
  { it with
    stage := .decided, disposition := some .hold, reason := reason, settle := none, pinned := false
    watchMatch := if reason = .halted ∨ reason = .cleared then none else it.watchMatch }

/-- What a halt or CLEAR WORK makes of a record: an undecided one is held, a decided one stays (R51, R52). -/
def Item.cutShort (reason : HoldReason) (it : Item) : Item := if it.stage = .decided then it else it.held reason

/-- R191: which requests have the wrong form, from the list of the rule and the lengths of 11.5.2. -/
def Request.wrongForm (r : Request) : Prop :=
  let p := r.payload
  let len := r.length.toNat
  match r.kind.toNat with
  | 1 => len ≠ 17
  | 2 =>
    match p with
    | [] => True
    | sel :: _ =>
      match sel.toNat with
      | 1 => len ≠ 6 ∨ natAt p 1 ≠ 0
      | 2 => len ≠ 6 ∨ 3 < natAt p 1
      | 3 => len ≠ 10 ∨ 7 < natAt p 1
      | 4 => len ≠ 4 ∨ natAt p 1 ≠ 0
      | 5 => len ≠ 4 ∨ natAt p 1 ≠ 0
      | 6 => len ≠ 3 ∨ natAt p 1 ≠ 0
      | _ => True
  | 3 => len ≠ 0
  | 4 => len ≠ 0
  | 5 => len ≠ 0
  | 6 => len ≠ 0
  | 7 =>
    len ≠ 20 ∨ 15 < natAt p 0 ∨ (∃ c ∈ (p.drop 2).take 13, c.toNat < 48 ∨ 57 < c.toNat) ∨
      (9999 < (wordAt p 15).toNat ∧ (wordAt p 15).toNat ≠ 65535)
  | 8 => len ≠ 15
  | 9 => len ≠ 1
  | 10 => len ≠ 1 ∨ natAt p 0 = 0 ∨ 31 < natAt p 0
  | 11 => len ≠ 0
  | 12 => len ≠ 1 ∨ natAt p 0 = 0 ∨ 16 < natAt p 0
  | 13 => len ≠ 0
  | 14 => len ≠ 1 ∨ 16 < natAt p 0
  | 15 => len ≠ 2
  | _ => True

/-- The request whose row this command carries out is refused with REFUSED_STATE (11.3), the state otherwise as it was. -/
def RefusedState (c : Instr) (s : State) (r : Request) (rest : List Request) : Prop :=
  exec c s = .next (s.replied rest [r.kind, 3])

/-- Commands carried out one after another. -/
def execAll : List Instr → State → Host.Outcome State Fault Refusal
  | [], s => .next s
  | c :: cs, s =>
    match exec c s with
    | .next t => execAll cs t
    | .fault f => .fault f
    | .refused r => .refused r

/-! ## Invariants -/

/-- A condition is never deferred and pending at once, and never deferred and in service at once (9.1). -/
def ConditionUnit.disjoint (u : ConditionUnit) : Prop := u.deferred &&& u.pending = 0 ∧ u.deferred &&& u.inService = 0

/-- The detail record of a condition. -/
def ConditionUnit.detail (u : ConditionUnit) (c : Condition) : Option Detail := u.details.getD c.index none

/-- The condition unit is sound: its sets are disjoint as 9.1 says, and each of the 16 detail records is empty or names its
own condition (R165), and is filled where the condition is in any of the four sets (R168). -/
def ConditionUnit.sound (u : ConditionUnit) : Prop :=
  u.disjoint ∧ u.details.length = 16 ∧ (∀ c d, u.detail c = some d → d.condition = c) ∧
    ∀ c, has u.recorded c ∨ has u.deferred c ∨ has u.pending c ∨ has u.inService c → (u.detail c).isSome

/-- When ATTN is to be asserted: the pending set holds a condition ranked above every condition in service (R171). -/
def State.attnDue (s : State) : Prop :=
  s.station.powerGood = true ∧ s.station.state ≠ .strapFault ∧
    ∃ c, has s.cond.pending c = true ∧ ∀ d, has s.cond.inService d = true → c.rank < d.rank

/-- When STOP is to be asserted: the station is HALTED, or a routed condition is pending or in service (R175). -/
def State.stopDue (s : State) : Prop :=
  s.station.powerGood = true ∧ s.station.state ≠ .strapFault ∧
    (s.station.state = .halted ∨
      ∃ c, has s.cond.routing c = true ∧ (has s.cond.pending c = true ∨ has s.cond.inService c = true))

/-- Both pins stand as R171 and R175 say, and in STRAP FAULT the sets are empty (R171). -/
def State.pinsFollow (s : State) : Prop :=
  (s.cond.attn = true ↔ s.attnDue) ∧ (s.cond.stop = true ↔ s.stopDue) ∧
    (s.station.state = .strapFault →
      s.cond.recorded = 0 ∧ s.cond.deferred = 0 ∧ s.cond.pending = 0 ∧ s.cond.inService = 0)

/-- The tally table is sound: at most 512 entries, one per title key (R1), counts at most 63 (R11), and a count of 0 only
while the entry is pinned (R10). -/
def Tally.sound (t : Tally) : Prop :=
  t.table.length ≤ Config.tallySize ∧ (t.table.map Entry.key).Nodup ∧
    ∀ e ∈ t.table, e.count ≤ Config.maxCount ∧ (e.count = 0 → 1 ≤ e.pins)

/-- The arrival queue is sound: at most 8 records, whose tags are the last ones the counter gave, in order (R27, R29). -/
def Arrival.sound (a : Arrival) : Prop :=
  a.items.length ≤ Config.queueSize ∧
    a.items.map Item.tag = (List.range a.items.length).map fun i => a.nextTag - BitVec.ofNat 8 (a.items.length - i)

/-- Every buffer keeps its limit: 4 requests (R192), 4 replies and 8 DISPOSITION records (R194), 4 pending corrections
(R68), 4 pending answers (R94), 4 unconfirmed discards (R132); and a CLEAR WORK in handling has room for its reply. -/
def State.withinLimits (s : State) : Prop :=
  s.port.buffer.length ≤ Config.bufferSize ∧ replyCount s.port.output ≤ Config.replyRoom ∧
    (s.port.clearing = true → replyCount s.port.output < Config.replyRoom) ∧
    dispositionCount s.port.output ≤ Config.dispositionRoom ∧
    s.claim.corrections.length ≤ Config.correctionLimit ∧ s.inquiry.answers.length ≤ Config.answerLimit ∧
    s.line.discards.length ≤ Config.discardLimit

/-- While POWER GOOD is asserted, at most one entry of the transmit queue is IN FLIGHT (R138), and none while the unit is
QUIET or DEFERRING (R141); outside JOINING, RUN and PAUSED the queue and the pending corrections are empty and no attempt is
in progress (R61, R136, R150). -/
def State.transmitsInTurn (s : State) : Prop :=
  s.station.powerGood = true →
    s.access.queue.countP TxEntry.inFlight ≤ 1 ∧
    (s.access.unit = .quiet ∨ s.access.unit = .deferring → ∀ e ∈ s.access.queue, e.inFlight = false) ∧
    (s.station.state.transmits = false →
      s.access.queue = [] ∧ s.claim.corrections = [] ∧ s.access.unit ≠ .sending)

/-- The fixed banks have their sizes: 31 lane records (R62), 4 classes and 8 ranges (R101), 16 watch entries (R153). -/
def State.banksWhole (s : State) : Prop :=
  s.claim.roster.length = 31 ∧ s.rules.classes.length = 4 ∧ s.rules.ranges.length = 8 ∧ s.watch.length = 16

/-- The configuration stays in its ranges (R101, R103). -/
def Rules.inRange (r : Rules) : Prop :=
  (∀ c ∈ r.classes, 1 ≤ c.p ∧ c.p ≤ 2 ∧ c.s ≤ 6 ∧ c.r ≤ 255 ∧ c.f ≤ 255) ∧
    (∀ g ∈ r.ranges, g.low ≤ 99999 ∧ g.high ≤ 99999 ∧ g.cls ≤ 3) ∧
    100 ≤ r.dwell ∧ r.dwell ≤ 5000 ∧ 5 ≤ r.inquiryWindow ∧ r.inquiryWindow ≤ 100 ∧ 5 ≤ r.settleWindow ∧
    r.settleWindow ≤ 100

end Sys2Proof.Machine
end

