-- ==== Sys2Proof/Certificates/Slice0/Obligations.lean ====
section
/-! DEFINITION. The statements for the provers. Each docstring names the rules of spec/ a statement formalises. -/

open Sys2Proof Sys2Proof.Machine

/-! ## Requests: form, configuration, station control -/

/-- R191: a request is of wrong form exactly in the cases of the rule's list, and is then answered REFUSED_FORM in every
state, nothing else changing; UNKNOWN_REQUEST answers so a kind byte that is no request kind. -/
def Obligations.WrongFormRefused : Prop :=
  ∀ (s : State) (r : Request) (rest : List Request), Serving s r rest →
    (r.formOk = true ↔ ¬ r.wrongForm) ∧
      (r.wrongForm → exec r.row.command s = .next (s.replied rest [r.kind, 5])) ∧
      (r.kind.toNat = 0 ∨ 15 < r.kind.toNat → exec .unknownRequest s = .next (s.replied rest [r.kind, 5]))

/-- R102, R103: the three selectors of the rule unit. Every value is clamped to the nearest limit of its range and stored,
replacing the whole setting; the reply is DONE, or DONE_CLAMPED where a value was clamped, with the values as stored. An
index out of range is REFUSED_FORM, every state but CONFIGURING REFUSED_STATE, and nothing is stored. -/
def Obligations.ConfigureRuleUnit : Prop :=
  ∀ (s : State) (rest : List Request),
    (∀ d0 d1 w x : Byte, Serving s { kind := 2, length := 6, payload := [1, 0, d0, d1, w, x] } rest →
      s.station.state = .configuring →
      let n := (d1 ++ d0).toNat
      let dwell := max 100 (min 5000 n)
      let inquiry := max 5 (min 100 w.toNat)
      let settle := max 5 (min 100 x.toNat)
      exec .configureTimes s = .next (State.replied
        { s with rules := { s.rules with dwell := dwell, inquiryWindow := inquiry, settleWindow := settle } } rest
        [2, if dwell = n ∧ inquiry = w.toNat ∧ settle = x.toNat then 0 else 1, 1, 0, byteOf dwell, byteOf (dwell / 256),
          byteOf inquiry, byteOf settle])) ∧
    (∀ k p q r f : Byte, Serving s { kind := 2, length := 6, payload := [2, k, p, q, r, f] } rest →
      (k.toNat ≤ 3 → s.station.state = .configuring →
        let c : RuleClass := { p := max 1 (min 2 p.toNat), s := min 6 q.toNat, r := r.toNat, f := f.toNat }
        exec .configureClass s = .next (State.replied
          { s with rules := { s.rules with classes := s.rules.classes.set k.toNat c } } rest
          [2, if c.p = p.toNat ∧ c.s = q.toNat then 0 else 1, 2, k, byteOf c.p, byteOf c.s, r, f])) ∧
      (3 < k.toNat → exec .configureClass s = .next (s.replied rest [2, 5]))) ∧
    (∀ i e l0 l1 l2 h0 h1 h2 k : Byte,
      Serving s { kind := 2, length := 10, payload := [3, i, e, l0, l1, l2, h0, h1, h2, k] } rest →
      (i.toNat ≤ 7 → s.station.state = .configuring →
        let l := l0.toNat + 256 * l1.toNat + 65536 * l2.toNat
        let h := h0.toNat + 256 * h1.toNat + 65536 * h2.toNat
        let g : PublisherRange :=
          { enable := e != 0, low := min 99999 l, high := min 99999 h, cls := min 3 k.toNat }
        exec .configureRange s = .next (State.replied
          { s with rules := { s.rules with ranges := s.rules.ranges.set i.toNat g } } rest
          [2, if g.low = l ∧ g.high = h ∧ g.cls = k.toNat then 0 else 1, 3, i, if e = 0 then 0 else 1, byteOf g.low,
            byteOf (g.low / 256), byteOf (g.low / 65536), byteOf g.high, byteOf (g.high / 256), byteOf (g.high / 65536),
            byteOf g.cls])) ∧
      (7 < i.toNat → exec .configureRange s = .next (s.replied rest [2, 5]))) ∧
    (∀ r : Request, Serving s r rest → r.formOk = true → s.station.state ≠ .configuring →
      r.row = .configureTimes ∨ r.row = .configureClass ∨ r.row = .configureRange →
      RefusedState r.row.command s r rest)

/-- R178: the three selectors of the condition unit replace the whole of their setting, the conditions keeping their
flags, and STOP follows the routing at once; in every other state than CONFIGURING they are refused. POWER GOOD gives
the defaults, and LANE RESET and CLEAR WORK leave the three settings. -/
def Obligations.ConfigureConditionUnit : Prop :=
  ∀ (s : State) (rest : List Request),
    (∀ a b : Byte, Serving s { kind := 2, length := 4, payload := [4, 0, a, b] } rest → s.station.state = .configuring →
      exec .configureMask s =
        .next (State.replied { s with cond := { s.cond with mask := b ++ a } } rest [2, 0, 4, 0, a, b])) ∧
    (∀ a b : Byte, Serving s { kind := 2, length := 4, payload := [5, 0, a, b] } rest → s.station.state = .configuring →
      ∃ t, exec .configureStopRouting s = .next t ∧
        t = refresh (State.replied { s with cond := { s.cond with routing := b ++ a } } rest [2, 0, 5, 0, a, b]) ∧
        (t.cond.stop = true ↔ t.stopDue)) ∧
    (∀ f : Byte, Serving s { kind := 2, length := 3, payload := [6, 0, f] } rest → s.station.state = .configuring →
      exec .configureAutomaticEnd s = .next (State.replied
        { s with cond := { s.cond with autoEnd := f != 0 } } rest [2, 0, 6, 0, if f = 0 then 0 else 1])) ∧
    (∀ r : Request, Serving s r rest → r.formOk = true → s.station.state ≠ .configuring →
      r.row = .configureMask ∨ r.row = .configureStopRouting ∨ r.row = .configureAutomaticEnd →
      RefusedState r.row.command s r rest) ∧
    (∀ (l : Lane) (q : BitVec 2) (o : Bool) (t : State), exec (.powerGoodRise l q o) s = .next t →
      (∀ c, has t.cond.mask c = decide (c.rank ≤ 5)) ∧ t.cond.routing = 0 ∧ t.cond.autoEnd = false) ∧
    (∀ (c : Instr) (t : State), c = .laneReset ∨ c = .clearWork → exec c s = .next t →
      t.cond.mask = s.cond.mask ∧ t.cond.routing = s.cond.routing ∧ t.cond.autoEnd = s.cond.autoEnd)

/-- R76, R167, R183, R184: COMMENCE in CONFIGURING enters JOINING and queues the GREETING with attempt count 0; PAUSE in RUN
enters PAUSED and makes every deferred condition pending; RESUME in PAUSED enters RUN. Each replies DONE. PAUSE in PAUSED
and RESUME in RUN reply DONE and change nothing; elsewhere the three are refused. -/
def Obligations.StationRequests : Prop :=
  ∀ (s : State) (rest : List Request),
    (Serving s { kind := 3, length := 0, payload := [] } rest →
      (s.station.state = .configuring →
        exec .commence s = .next (refresh (State.replied
          { s with
            station := { s.station with state := .joining }
            access := { s.access with queue := s.access.queue ++
              [{ owner := .greeting, place := 0, attempts := 0, noRetry := false, inFlight := false }] } } rest [3, 0]))) ∧
      (s.station.state ≠ .configuring → exec .commence s = .next (s.replied rest [3, 3]))) ∧
    (Serving s { kind := 4, length := 0, payload := [] } rest →
      (s.station.state = .run →
        exec .pause s = .next (refresh (State.replied
          { s with
            station := { s.station with state := .paused }
            cond := { s.cond with pending := s.cond.pending ||| s.cond.deferred, deferred := 0 } } rest [4, 0]))) ∧
      (s.station.state = .paused → exec .pause s = .next (refresh (s.replied rest [4, 0]))) ∧
      (s.station.state ≠ .run → s.station.state ≠ .paused → exec .pause s = .next (s.replied rest [4, 3]))) ∧
    (Serving s { kind := 5, length := 0, payload := [] } rest →
      (s.station.state = .run ∨ s.station.state = .paused →
        exec .resume s = .next (refresh (State.replied
          { s with station := { s.station with state := .run } } rest [5, 0]))) ∧
      (s.station.state ≠ .run → s.station.state ≠ .paused → exec .resume s = .next (s.replied rest [5, 3])))

/-- R52, R188 (with R78, R81, R92, R100, R150, R180): CLEAR WORK. In CONFIGURING, HALTED and STRAP FAULT it is refused. In
JOINING, RUN and PAUSED each undecided item is decided HOLD CLEARED and gives up its pin; corrections, inquiries and answers
are gone, a frame in flight is jammed, and the queue holds a new GREETING or nothing; all else is kept. With output room
for every record all are released in order, and the four sets are clear before the reply DONE, which stands last. Without
it the records that find no room stay, decided, the sets stay, and CLEAR WORK stays in handling, its reply to come. -/
def Obligations.ClearWorkEndsWorkInHand : Prop :=
  ∀ (s : State) (rest : List Request), Serving s { kind := 6, length := 0, payload := [] } rest →
    (s.station.state.transmits = false → exec .clearWork s = .next (s.replied rest [6, 3])) ∧
    (s.station.state.transmits = true → (s.arrival.items.map Item.tag).Nodup →
      let cut := s.arrival.items.map (Item.cutShort .cleared)
      let unsent := dispositionCount s.port.output
      ∃ t, exec .clearWork s = .next t ∧
        (cut = [] ∨ unsent + cut.length ≤ 8 →
          t.port = { s.port with
            buffer := rest
            output := s.port.output ++ cut.map dispositionRecord ++ [{ kind := 240, payload := [6, 0] }] } ∧
          t.arrival = { s.arrival with items := [] } ∧
          t.cond = { s.cond with
            recorded := 0, deferred := 0, pending := 0, inService := 0, attn := false, stop := false }) ∧
        (cut ≠ [] → 8 < unsent + cut.length → ∃ gone stay, cut = gone ++ stay ∧ stay ≠ [] ∧
          (gone ≠ [] → unsent + gone.length = 8) ∧ (gone = [] → 8 ≤ unsent) ∧
          t.port = { s.port with clearing := true, output := s.port.output ++ gone.map dispositionRecord } ∧
          t.arrival = { s.arrival with items := stay } ∧
          t.cond = { s.cond with attn := t.cond.attn, stop := t.cond.stop }) ∧
        t.tally.epoch = s.tally.epoch ∧
        t.tally.table = (s.arrival.items.filter fun it => decide (it.stage ≠ .decided) && it.pinned).foldl
          (fun table it => unpin table it.key) s.tally.table ∧
        t.claim = { s.claim with corrections := [] } ∧ t.inquiry = { inquiries := [], answers := [] } ∧
        t.access.queue =
          (if s.station.state = .joining ∧ s.claim.greetingTimer = none ∧
              ¬ (∃ f, s.line.holder = some f ∧ f.kind = .greeting) then
            [{ owner := .greeting, place := 0, attempts := 0, noRetry := false, inFlight := false }] else []) ∧
        t.access.yield = s.access.yield ∧ t.access.flight = none ∧
        t.access.unit = (if s.access.unit = .sending ∨ s.access.unit = .jamming then .jamming
          else if t.access.queue = [] then .quiet else .deferring) ∧
        t.access.wave = (if s.access.unit = .sending then jammedWave s.station.rate s.access.wave s.access.txElapsed
          else s.access.wave) ∧
        t.station = s.station ∧ t.rules = s.rules ∧ t.line = s.line ∧ t.watch = s.watch ∧ t.clock = s.clock ∧
        t.draws = s.draws ∧ t.pending = s.pending)

/-! ## Requests: watch list, reads, conditions -/

/-- R160: LOAD WATCH ENTRY replaces the entry whole with hits 0 and replies with the entry as it stood, its hits included;
in HALTED and STRAP FAULT it is refused and the list left as it stands. -/
def Obligations.LoadWatchEntryReplaces : Prop :=
  ∀ (s : State) (rest : List Request) (i v p0 p1 ev dv en : Byte) (chars : List Byte), chars.length = 13 →
    Serving s { kind := 7, length := 20, payload := [i, v] ++ chars ++ [p0, p1, ev, dv, en] } rest →
    let part := (p1 ++ p0).toNat
    let old := s.watch.getD i.toNat {}
    let new : WatchEntry :=
      { valid := v != 0, digits := chars.map fun c => BitVec.ofNat 4 (c.toNat - 48)
        part := if part = 65535 then none else some (p1 ++ p0), events := BitVec.ofNat 4 ev.toNat
        divert := dv != 0, endOfList := en != 0, hits := 0 }
    let correct := i.toNat ≤ 15 ∧ (∀ c ∈ chars, 48 ≤ c.toNat ∧ c.toNat ≤ 57) ∧ (part ≤ 9999 ∨ part = 65535)
    (¬ correct → exec .loadWatchEntry s = .next (s.replied rest [7, 5])) ∧
    (correct → s.station.state.receives = false → exec .loadWatchEntry s = .next (s.replied rest [7, 3])) ∧
    (correct → s.station.state.receives = true →
      exec .loadWatchEntry s = .next (State.replied { s with watch := s.watch.set i.toNat new } rest
        ([7, 0, i, flagByte old.valid] ++ old.digits.map charOfDigit ++ wordBytes ((old.part.map BitVec.toNat).getD 65535) ++
          [byteOf old.events.toNat, flagByte old.divert, flagByte old.endOfList, byteOf old.hits])))

/-- R24 (with R3, R193): READ ENTRY replies with the entry of the title named, untouched, or NONE; a parity error replies
NONE and halts; in STRAP FAULT it is refused. That the NONE reply stands ahead of every record the halt releases is the
model's choice (log 6). -/
def Obligations.ReadEntryReplies : Prop :=
  ∀ (s : State) (rest : List Request) (chars : List Byte) (p0 p1 : Byte), chars.length = 13 →
    Serving s { kind := 8, length := 15, payload := chars ++ [p0, p1] } rest →
    let digits := ∀ c ∈ chars, 48 ≤ c.toNat ∧ c.toNat ≤ 57
    let key : TitleKey := { digits := chars.map fun c => BitVec.ofNat 4 (c.toNat - 48), part := p1 ++ p0 }
    (s.station.state = .strapFault → exec .readEntry s = .next (s.replied rest [8, 3])) ∧
    (s.station.state ≠ .strapFault →
      (¬ digits ∨ findEntry s.tally.table key = none → exec .readEntry s = .next (s.replied rest [8, 2])) ∧
      (∀ e, digits → findEntry s.tally.table key = some e → e.parityOk = true →
        exec .readEntry s = .next (s.replied rest
          ([8, 0, byteOf e.count] ++ wordBytes (e.refMass.getD 65535) ++
            [if e.certainty = .certain then 1 else 0, byteOf ((e.lastClaim.map fun c => c.1.toNat).getD 0),
              (e.lastClaim.map Prod.snd).getD 0, byteOf e.pins] ++
            wordBytes (s.tally.table.findIdx (fun x => x.key == key) + 1)))) ∧
      (∀ e, digits → findEntry s.tally.table key = some e → e.parityOk = false →
        ∃ t more, exec .readEntry s = .next t ∧ t.station.state = .halted ∧
          t.port.output = s.port.output ++ [{ kind := 240, payload := [8, 2] }] ++ more))

/-- R54: READ ITEM replies with the record at the position named, or NONE, and changes nothing; in STRAP FAULT it is refused. -/
def Obligations.ReadItemReplies : Prop :=
  ∀ (s : State) (rest : List Request) (n : Byte), Serving s { kind := 9, length := 1, payload := [n] } rest →
    (s.station.state = .strapFault → exec .readItem s = .next (s.replied rest [9, 3])) ∧
    (s.station.state ≠ .strapFault →
      (n = 0 ∨ s.arrival.items.length < n.toNat → exec .readItem s = .next (s.replied rest [9, 2])) ∧
      (∀ (before : List Item) (it : Item) (behind : List Item), s.arrival.items = before ++ it :: behind →
        n.toNat = before.length + 1 →
        exec .readItem s = .next (s.replied rest
          ([9, 0, it.tag] ++ it.chars ++ wordBytes it.part.toNat ++ it.mass.reportBytes ++
            [flagByte it.mass.isClamped, byteOf it.cls, it.stage.code, flagByte it.completed, byteOf (it.ordinal.getD 0),
              flagByte it.claimSeq.isSome, it.claimSeq.getD 0] ++ wordBytes it.deadline ++
            [it.massCheck.code, flagByte it.corrected, byteOf (it.watchMatch.getD 255), dispositionCode it.disposition,
              it.reason.code]))))

/-- R67 (with R66), R193: READ ROSTER replies with a lane's state, last sequence and role, the own lane's last sequence
being the own tally sequence, lanes 0 and above 31 being REFUSED_FORM; READ STATUS replies with state, epoch, queue
occupancy and the four sets. They change nothing; in STRAP FAULT they are refused. -/
def Obligations.ReadRosterAndStatusReply : Prop :=
  ∀ (s : State) (rest : List Request),
    (∀ n : Byte, Serving s { kind := 10, length := 1, payload := [n] } rest →
      (n = 0 ∨ 31 < n.toNat → exec .readRoster s = .next (s.replied rest [10, 5])) ∧
      (1 ≤ n.toNat → n.toNat ≤ 31 →
        (s.station.state = .strapFault → exec .readRoster s = .next (s.replied rest [10, 3])) ∧
        (s.station.state ≠ .strapFault →
          let x := s.claim.roster.getD (n.toNat - 1) {}
          exec .readRoster s = .next (s.replied rest
            [10, 0, flagByte x.present, if n.toNat = s.station.lane.toNat then s.claim.ownSeq else x.lastSeq,
              x.role.code])))) ∧
    (Serving s { kind := 11, length := 0, payload := [] } rest →
      (s.station.state = .strapFault → exec .readStatus s = .next (s.replied rest [11, 3])) ∧
      (s.station.state ≠ .strapFault →
        exec .readStatus s = .next (s.replied rest
          ([11, 0, s.station.state.code] ++ wordBytes s.tally.epoch.toNat ++ [byteOf s.arrival.items.length] ++
            wordBytes s.cond.recorded.toNat ++ wordBytes s.cond.deferred.toNat ++ wordBytes s.cond.pending.toNat ++
            wordBytes s.cond.inService.toNat))))

/-- R177: READ CONDITION replies with the detail record and the four flags of a condition whose detail is filled, else
NONE, and changes no flag and no detail; a code outside 1 to 16 is REFUSED_FORM; in STRAP FAULT it is refused. The bytes
of an absent title key or value are open (log 10): the statement holds for every value of them. -/
def Obligations.ReadConditionReplies : Prop :=
  ∀ (s : State) (rest : List Request) (n : Byte), Serving s { kind := 12, length := 1, payload := [n] } rest →
    (n = 0 ∨ 16 < n.toNat → exec .readCondition s = .next (s.replied rest [12, 5])) ∧
    (∀ c : Condition, n.toNat = c.rank →
      (s.station.state = .strapFault → exec .readCondition s = .next (s.replied rest [12, 3])) ∧
      (s.station.state ≠ .strapFault → s.cond.detail c = none → exec .readCondition s = .next (s.replied rest [12, 2])) ∧
      (∀ d, s.station.state ≠ .strapFault → s.cond.detail c = some d →
        ∃ (title : List Byte) (value : Byte) (draws : Nat),
          (∀ k, d.title = some k → title = k.chars ++ wordBytes k.part.toNat) ∧ (d.title = none → title.length = 15) ∧
          (∀ v, d.value = some v → value = byteOf v) ∧
          exec .readCondition s = .next (State.replied { s with draws := draws } rest
            ([12, 0, byteOf d.condition.rank,
              byteOf ((has s.cond.recorded c).toNat + 2 * (has s.cond.deferred c).toNat +
                4 * (has s.cond.pending c).toNat + 8 * (has s.cond.inService c).toNat),
              d.source.code, d.source.number, flagByte d.title.isSome] ++ title ++
              [flagByte d.value.isSome, value, watchEventCode d.event, flagByte d.again]))))

/-- R172: ACK ATTENTION takes the highest-ranked pending condition, replies with its detail record, and with automatic end
off puts it in service; recorded and deferred flags and details stay; with nothing pending it replies NONE; in STRAP FAULT
it is refused. The flags byte shows the condition's four flags as the request finds them or as it leaves them, which is
open, as are the bytes of absent fields (logs 10 and 12). -/
def Obligations.AckAttentionTakesHighest : Prop :=
  ∀ (s : State) (rest : List Request), Serving s { kind := 13, length := 0, payload := [] } rest →
    (s.station.state = .strapFault → exec .ackAttention s = .next (s.replied rest [13, 3])) ∧
    (s.station.state ≠ .strapFault → s.cond.pending = 0 → exec .ackAttention s = .next (s.replied rest [13, 2])) ∧
    (∀ c d, s.station.state ≠ .strapFault → has s.cond.pending c = true →
      (∀ x, has s.cond.pending x = true → c.rank ≤ x.rank) → s.cond.detail c = some d →
      ∃ (flags : Byte) (title : List Byte) (value : Byte) (draws : Nat),
        let kept : Nat := (has s.cond.recorded c).toNat + 2 * (has s.cond.deferred c).toNat
        (flags = byteOf (kept + 4 + 8 * (has s.cond.inService c).toNat) ∨
          flags = byteOf (kept + 8 * (has s.cond.inService c || !s.cond.autoEnd).toNat)) ∧
        (∀ k, d.title = some k → title = k.chars ++ wordBytes k.part.toNat) ∧ (d.title = none → title.length = 15) ∧
        (∀ v, d.value = some v → value = byteOf v) ∧
        exec .ackAttention s = .next (refresh (State.replied
          { s with
            draws := draws
            cond := { s.cond with
              pending := takeFrom s.cond.pending c
              inService := if s.cond.autoEnd then s.cond.inService else addTo s.cond.inService c } } rest
          ([13, 0, byteOf d.condition.rank, flags, d.source.code, d.source.number, flagByte d.title.isSome] ++ title ++
            [flagByte d.value.isSome, value, watchEventCode d.event, flagByte d.again]))))

/-- R173: END ATTENTION ends the service of the named condition or, with code 0, of the highest-ranked in service; where
that is not in service it replies NONE; a code above 16 is REFUSED_FORM; in STRAP FAULT it is refused. -/
def Obligations.EndAttentionEndsService : Prop :=
  ∀ (s : State) (rest : List Request) (n : Byte), Serving s { kind := 14, length := 1, payload := [n] } rest →
    (16 < n.toNat → exec .endAttention s = .next (s.replied rest [14, 5])) ∧
    (n.toNat ≤ 16 → s.station.state = .strapFault → exec .endAttention s = .next (s.replied rest [14, 3])) ∧
    (s.station.state ≠ .strapFault →
      (∀ c, has s.cond.inService c = true →
        (n.toNat = c.rank ∨ n = 0 ∧ ∀ x, has s.cond.inService x = true → c.rank ≤ x.rank) →
        exec .endAttention s = .next (refresh (State.replied
          { s with cond := { s.cond with inService := takeFrom s.cond.inService c } } rest [14, 0, byteOf c.rank]))) ∧
      (∀ c, n.toNat = c.rank → has s.cond.inService c = false → exec .endAttention s = .next (s.replied rest [14, 2])) ∧
      (n = 0 → s.cond.inService = 0 → exec .endAttention s = .next (s.replied rest [14, 2])))

/-- R176: CLEAR CONDITIONS clears the recorded and deferred flags of the conditions in the set and nothing else, ATTN and
STOP included; in HALTED and STRAP FAULT it is refused. The next occurrence of a condition so cleared, neither pending nor
in service, finds none of the four flags and latches a fresh detail. -/
def Obligations.ClearConditionsClears : Prop :=
  ∀ (s : State) (rest : List Request) (a b : Byte), Serving s { kind := 15, length := 2, payload := [a, b] } rest →
    (s.station.state = .halted ∨ s.station.state = .strapFault → exec .clearConditions s = .next (s.replied rest [15, 3])) ∧
    (s.station.state ≠ .halted → s.station.state ≠ .strapFault →
      let cleared : State := State.replied
        { s with cond := { s.cond with
            recorded := s.cond.recorded &&& ~~~(b ++ a), deferred := s.cond.deferred &&& ~~~(b ++ a) } } rest [15, 0]
      exec .clearConditions s = .next cleared ∧
      ∀ (c : Condition) (d : Detail), has (b ++ a) c = true → has s.cond.pending c = false →
        has s.cond.inService c = false → s.cond.details.length = 16 →
        has cleared.cond.recorded c = false ∧ has cleared.cond.deferred c = false ∧
          (occur c d cleared).cond.detail c = some { d with condition := c, again := false })

/-! ## One step, POWER GOOD, LANE RESET -/

/-- A step carries out the command at the front of the queue on the state with the queue's rest; with no command waiting
and POWER GOOD deasserted nothing happens (R181). What else an empty queue does is the model's choice (log 2). -/
def Obligations.StepRunsFrontCommand : Prop :=
  (∀ (s : State) (c : Instr) (rest : List Instr),
    step { s with pending := c :: rest } = exec c { s with pending := rest }) ∧
  (∀ s : State, s.pending = [] → s.station.powerGood = false → step s = .next s)

/-- The model's clock (log 2, the model's choice): with no command waiting and none of its own due, a step is one period of
the 24.000 MHz reference. The timers of items, inquiries, answers, corrections and the greeting come down by one where
the station transmits and none of them elsewhere (R60, R69, R89, R95, R117); the dwell clock's tick comes at each
millisecond with BELT RUNNING as last sampled (R44, log 5), and nothing else of items, inquiries and corrections moves. -/
def Obligations.ReferencePeriodPasses : Prop :=
  ∀ s : State, s.pending = [] → s.station.powerGood = true → dueCommand s = none →
    ∃ t, step s = .next t ∧
      (s.station.state.transmits = true →
        t.arrival.items = s.arrival.items.map (fun it => { it with settle := it.settle.map (· - 1) }) ∧
        t.inquiry.inquiries = s.inquiry.inquiries.map (fun q => { q with window := q.window.map (· - 1) }) ∧
        t.inquiry.answers = s.inquiry.answers.map (fun x => { x with holdOff := x.holdOff - 1 }) ∧
        t.claim = { s.claim with
          corrections := s.claim.corrections.map fun c => { c with holdOff := c.holdOff - 1 }
          greetingTimer := s.claim.greetingTimer.map (· - 1) }) ∧
      (s.station.state.transmits = false →
        t.arrival.items = s.arrival.items ∧ t.inquiry = s.inquiry ∧ t.claim = s.claim) ∧
      (∀ b, .dwellClockTick b ∈ t.pending ↔ (s.clock.msPhase + 1) % 24000 = 0 ∧ b = s.arrival.belt) ∧
      t.clock.msPhase = (s.clock.msPhase + 1) % 24000 ∧
      t.station = s.station ∧ t.tally = s.tally ∧ t.rules = s.rules ∧ t.watch = s.watch ∧ t.cond = s.cond ∧
      t.access.queue = s.access.queue ∧ t.line.discards = s.line.discards ∧ t.port.output = s.port.output ∧
      t.draws = s.draws

/-- R181 (with R26, R29, R53, R56, R62, R83, R101, R136, R139, R143, R153, R165, R178, R195): a rising edge of POWER GOOD
samples the straps and puts every block at its POWER GOOD value: CONFIGURING, or STRAP FAULT for lane strap 0. The two lists
in which the model holds what is on its way (log 13) are empty. -/
def Obligations.PowerGoodRises : Prop :=
  ∀ (s : State) (l : Lane) (q : BitVec 2) (o : Bool), ∃ t, exec (.powerGoodRise l q o) s = .next t ∧
    t.station =
      { powerGood := true, state := if l = 0 then .strapFault else .configuring, lane := l, rate := q, observer := o } ∧
    t.tally = { table := [], epoch := 0 } ∧ t.arrival.items = [] ∧ t.arrival.nextTag = 0 ∧
    t.claim.ownSeq = 0 ∧ t.claim.corrections = [] ∧ t.claim.greetingTimer = none ∧
    t.claim.roster.length = 31 ∧ (∀ x ∈ t.claim.roster, x = { present := false, lastSeq := 0, role := .unknown }) ∧
    t.inquiry = { inquiries := [], answers := [] } ∧
    t.rules.classes.length = 4 ∧ (∀ c ∈ t.rules.classes, c = { p := 1, s := 1, r := 20, f := 6 }) ∧
    t.rules.ranges.length = 8 ∧ (∀ g ∈ t.rules.ranges, g = { enable := false, low := 0, high := 0, cls := 0 }) ∧
    t.rules.dwell = 1500 ∧ t.rules.inquiryWindow = 20 ∧ t.rules.settleWindow = 30 ∧
    t.line.receiver = (if l = 0 then .stopped else .waitingHigh) ∧ t.line.assembler = .muted ∧
    t.line.atCheck = [] ∧ t.line.discards = [] ∧ t.line.slot1 = none ∧ t.line.slot2 = none ∧ t.line.holder = none ∧
    t.access.queue = [] ∧ t.access.yield = false ∧ t.access.unit = .quiet ∧ t.access.flight = none ∧
    t.watch.length = 16 ∧ (∀ w ∈ t.watch, w =
      { valid := false, digits := List.replicate 13 0, part := some 0, events := 0, divert := false
        endOfList := false, hits := 0 }) ∧
    t.cond.recorded = 0 ∧ t.cond.deferred = 0 ∧ t.cond.pending = 0 ∧ t.cond.inService = 0 ∧
    (∀ c, t.cond.detail c = none) ∧ (∀ c, has t.cond.mask c = decide (c.rank ≤ 5)) ∧ t.cond.routing = 0 ∧
    t.cond.autoEnd = false ∧ t.cond.attn = false ∧ t.cond.stop = false ∧
    t.port.assembler = .idle ∧ t.port.complete = [] ∧ t.port.clearing = false ∧ t.port.buffer = [] ∧ t.port.output = []

/-- R181: at the falling edge of POWER GOOD the station is inactive with ATTN and STOP deasserted and the dock line
released, and until the next rising edge no command does anything (logs 21 and 27). -/
def Obligations.InactiveWithoutPowerGood : Prop :=
  (∀ s : State, s.station.powerGood = true →
    exec .powerGoodFall s = .next
      { s with
        station := { s.station with powerGood := false }
        access := { s.access with unit := .quiet, flight := none }
        cond := { s.cond with attn := false, stop := false } }) ∧
  (∀ (s : State) (c : Instr), s.station.powerGood = false → (∀ l q o, c ≠ .powerGoodRise l q o) → exec c s = .next s)

/-- R187 (with R26, R53, R66, R101, R136, R143, R150, R153, R180, R195): LANE RESET enters CONFIGURING from every state but
STRAP FAULT, where it does nothing. It empties the tally, the queue, the roster, the inquiries, the transmit queue, the
watch list, the four sets and the details; it keeps the straps, the configuration of the rule unit and of the condition
unit, an output record whose first character has been sent (log 29), and jams a frame in flight. The two lists in which the
model holds what is on its way (log 13) are emptied, by its choice (log 43). -/
def Obligations.LaneResetClears : Prop :=
  ∀ s : State, s.station.powerGood = true →
    (s.station.state = .strapFault → exec .laneReset s = .next s) ∧
    (s.station.state ≠ .strapFault → ∃ t, exec .laneReset s = .next t ∧
      t.station = { s.station with state := .configuring } ∧ t.rules = s.rules ∧
      t.tally = { table := [], epoch := 0 } ∧ t.arrival.items = [] ∧ t.arrival.nextTag = 0 ∧
      t.claim.ownSeq = 0 ∧ t.claim.corrections = [] ∧ t.claim.greetingTimer = none ∧
      t.claim.roster.length = 31 ∧ (∀ x ∈ t.claim.roster, x = { present := false, lastSeq := 0, role := .unknown }) ∧
      t.inquiry = { inquiries := [], answers := [] } ∧
      t.line.receiver = .waitingHigh ∧ t.line.assembler = .muted ∧ t.line.atCheck = [] ∧ t.line.discards = [] ∧
      t.line.slot1 = none ∧ t.line.slot2 = none ∧ t.line.holder = none ∧
      t.access.queue = [] ∧ t.access.yield = false ∧ t.access.flight = none ∧
      t.access.unit = (if s.access.unit = .sending ∨ s.access.unit = .jamming then .jamming else .quiet) ∧
      (s.access.unit = .sending → t.access.wave = jammedWave s.station.rate s.access.wave s.access.txElapsed) ∧
      t.watch.length = 16 ∧ (∀ w ∈ t.watch, w =
      { valid := false, digits := List.replicate 13 0, part := some 0, events := 0, divert := false
        endOfList := false, hits := 0 }) ∧
      t.cond.recorded = 0 ∧ t.cond.deferred = 0 ∧ t.cond.pending = 0 ∧ t.cond.inService = 0 ∧
      (∀ c, t.cond.detail c = none) ∧ t.cond.mask = s.cond.mask ∧ t.cond.routing = s.cond.routing ∧
      t.cond.autoEnd = s.cond.autoEnd ∧ t.cond.attn = false ∧ t.cond.stop = false ∧
      t.port.assembler = .idle ∧ t.port.complete = [] ∧ t.port.clearing = false ∧ t.port.buffer = [] ∧
      t.port.output = (if 1040 ≤ s.port.outElapsed then s.port.output.take 1 else []) ∧
      t.draws = s.draws ∧ t.pending = s.pending)

/-! ## Shared effects -/

/-- What a refresh changes: ATTN as R171 says, STOP as R175 says, and a line access unit with no attempt or jam in progress
DEFERRING exactly where an entry waits in JOINING, RUN or PAUSED (R141). With automatic end on and a condition still in
service ATTN follows R171, where R174 has other words (log 36, the model's choice). -/
def Obligations.RefreshFollows : Prop :=
  ∀ s : State, ∃ (attn stop : Bool) (unit : UnitState),
    refresh s = { s with cond := { s.cond with attn := attn, stop := stop }, access := { s.access with unit := unit } } ∧
    (attn = true ↔ s.attnDue) ∧ (stop = true ↔ s.stopDue) ∧
    (s.access.unit = .sending ∨ s.access.unit = .jamming → unit = s.access.unit) ∧
    (s.access.unit = .quiet ∨ s.access.unit = .deferring →
      (s.station.state.transmits = true ∧ (∃ e ∈ s.access.queue, e.inFlight = false) → unit = .deferring) ∧
      (¬ (s.station.state.transmits = true ∧ ∃ e ∈ s.access.queue, e.inFlight = false) → unit = .quiet))

/-- R166, R168: an occurrence sets the recorded flag, and does to the other flags and the detail what the two tables say:
`waits` is the condition found deferred or pending, `notifies` and `defers` the actions. In STRAP FAULT none is taken. -/
def Obligations.OccurrenceFollowsTables : Prop :=
  ∀ (s : State) (c : Condition) (d : Detail),
    (s.station.state = .strapFault → occur c d s = s) ∧
    (s.station.state ≠ .strapFault → s.cond.details.length = 16 →
      let u := s.cond
      let waits := has u.deferred c = true ∨ has u.pending c = true
      let enabled := has u.mask c = true
      let defers := 6 ≤ c.rank ∧ enabled ∧ s.station.state = .run ∧ s.arrival.items ≠ []
      let notifies := c.rank ≤ 2 ∨ enabled ∧ ¬ defers
      let fresh : Option Detail := some { d with condition := c, again := false }
      let more : Option Detail := (u.detail c).map fun x => { x with again := true }
      ∃ v : ConditionUnit, occur c d s = { s with cond := v } ∧ v.recorded = addTo u.recorded c ∧
        v.inService = u.inService ∧ v.mask = u.mask ∧ v.routing = u.routing ∧ v.autoEnd = u.autoEnd ∧ v.attn = u.attn ∧
        v.stop = u.stop ∧ (∀ x, x ≠ c → v.detail x = u.detail x) ∧
        (waits → v.deferred = u.deferred ∧ v.pending = u.pending ∧ v.detail c = more) ∧
        (¬ waits → notifies ∨ (defers ∧ has u.inService c = true) →
          v.deferred = u.deferred ∧ v.pending = addTo u.pending c ∧ v.detail c = fresh) ∧
        (¬ waits → defers → has u.inService c = false →
          v.deferred = addTo u.deferred c ∧ v.pending = u.pending ∧ v.detail c = fresh) ∧
        (¬ waits → ¬ notifies → ¬ defers → v.deferred = u.deferred ∧ v.pending = u.pending ∧
          v.detail c = if has u.recorded c = true ∨ has u.inService c = true then more else fresh))

/-- R43 (with R10, R21): a decision sets disposition and hold reason, stops the settle timer, gives up the item's pin,
removes an entry left with count 0 and pins 0, and reports the item's conditions in rank order, each with source OWN ITEM and
the item's title: exactly those of the rule's table, and none where a halt or CLEAR WORK decides. R185 (with R3, R25, R51,
R80, R92, R100, R136, R150, R167, R169, R188): a halt-class occurrence in a receiving station brings HALTED. Every undecided
item is decided HOLD HALTED and gives up its pin, the records are released as far as room lasts, the deferred conditions
becoming pending where that empties the queue; corrections, inquiries, answers, the greeting timer and the transmit queue
are gone, a frame in flight is jammed, and the receiver stops with its partial frame and discards dropped, and
with them, by the model's choice, a frame complete in form but not yet checked (log 43). A CLEAR WORK in
handling is finished, its sets not cleared. A parity error records TALLY MEMORY FAULT with source STATION; that
its title, where it has one, is filled to 13 characters is the model's choice (log 9). -/
def Obligations.DecisionSteps : Prop :=
  (∀ (s : State) (it : Item) (d : Disposition) (reason : HoldReason), s.arrival.find it.tag = some it →
      it.stage ≠ .decided →
      let cut := reason = .halted ∨ reason = .cleared
      let k := it.key
      let lowered := s.tally.table.map fun e => if e.key = k then { e with pins := e.pins - 1 } else e
      let left := lowered.filter fun e => ¬ (e.key = k ∧ e.count = 0 ∧ e.pins = 0)
      ∃ reports : List Detail,
        decideItem it.tag d reason s = occurAll reports
          { s with
            arrival := { s.arrival with items := s.arrival.items.map fun x => if x.tag = it.tag then
              { x with
                stage := .decided, disposition := some d, reason := reason, settle := none, pinned := false
                watchMatch := if cut then none else x.watchMatch } else x }
            tally := { s.tally with table :=
              if it.pinned then left else s.tally.table } } ∧
        (reports.map fun x => x.condition.rank).Pairwise (· < ·) ∧
        (∀ x ∈ reports, x.source = .ownItem it.tag ∧ x.title = some { chars := it.chars, part := it.part } ∧
          x.again = false) ∧
        (cut → reports = []) ∧
        (¬ cut → ∀ c v e, (∃ x ∈ reports, x.condition = c ∧ x.value = v ∧ x.event = e) ↔
          (c = .lineContention ∧ reason = .contention ∧ v = some 2 ∧ e = none) ∨
          (c = .deadline ∧ reason = .deadline ∧ v = some (it.ordinal.getD 0) ∧ e = none) ∨
          (c = .massMismatch ∧ reason = .mass ∧ v = none ∧ e = none) ∨
          (c = .watchMatch ∧ it.watchMatch ≠ none ∧ v = it.watchMatch ∧ e = some .presented) ∨
          (c = .correctedOrdinal ∧ it.corrected = true ∧ v = some (it.ordinal.getD 0) ∧ e = none) ∨
          (c = .identifierFault ∧ d = .reject ∧ v = none ∧ e = none))) ∧
  (∀ (s : State) (c : Condition) (d : Detail), c.rank ≤ 2 →
    (s.station.state.receives = false → haltOccurrence c d s = occur c d s) ∧
    (s.station.state.receives = true → (s.arrival.items.map Item.tag).Nodup →
      let noted := (occur c d s).cond
      let unsent := dispositionCount s.port.output
      ∃ (t : State) (gone stay : List Item), haltOccurrence c d s = t ∧
        s.arrival.items.map (Item.cutShort .halted) = gone ++ stay ∧ (stay ≠ [] → 8 ≤ unsent + gone.length) ∧
        (gone ≠ [] → unsent + gone.length ≤ 8) ∧
        let emptied := gone ≠ [] ∧ stay = []
        let sent := s.port.output ++ gone.map dispositionRecord
        t = { s with
          station := { s.station with state := .halted }
          tally := { s.tally with
            table := (s.arrival.items.filter fun it => decide (it.stage ≠ .decided) && it.pinned).foldl
              (fun table it => unpin table it.key) s.tally.table }
          arrival := { s.arrival with items := stay }
          claim := { s.claim with corrections := [], greetingTimer := none }
          inquiry := { inquiries := [], answers := [] }
          line := { s.line with receiver := .stopped, idle := 0, assembler := .muted, discards := [], atCheck := [] }
          access := t.access
          cond := { noted with
            pending := if emptied then noted.pending ||| noted.deferred else noted.pending
            deferred := if emptied then 0 else noted.deferred }
          port := t.port } ∧
        (s.port.clearing = false ∨ stay ≠ [] → t.port = { s.port with output := sent }) ∧
        (∀ r rest, s.port.clearing = true → stay = [] → s.port.buffer = r :: rest → t.port = { s.port with
          clearing := false, buffer := rest, output := sent ++ [{ kind := 240, payload := [r.kind, 0] }] }) ∧
        t.access.queue = [] ∧ t.access.flight = none ∧ t.access.yield = s.access.yield ∧
        t.access.unit = (if s.access.unit = .sending ∨ s.access.unit = .jamming then .jamming else .quiet) ∧
        t.access.wave = (if s.access.unit = .sending then jammedWave s.station.rate s.access.wave s.access.txElapsed
          else s.access.wave))) ∧
  (∀ (s : State) (k : TitleKey), ∃ title : Option PortKey, (∀ x ∈ title, x.chars.length = 13) ∧
    memoryFault k s = haltOccurrence .tallyMemoryFault
      { condition := .tallyMemoryFault, source := .station, title := title, value := none, event := none }
      { s with draws := s.draws + 1 })

/-! ## Lane port -/

/-- R190: what each lane port character does at the request assembler, by the state it finds; nothing else changes but the
gap, which starts again at the report of the character (log 20, the model's choice). Above 40 payload characters are
counted and not stored. -/
def Obligations.RequestCharacterAssembled : Prop :=
  ∀ (s : State) (b : Byte), s.station.powerGood = true →
    let after (a : RequestAssembler) (done : List Request) : Host.Outcome State Fault Refusal :=
      .next { s with port := { s.port with assembler := a, gap := 0, complete := s.port.complete ++ done } }
    (s.port.assembler = .idle → exec (.requestCharacterReceived b) s = after (.assembling b none [] 0) []) ∧
    (s.port.assembler = .muted → exec (.requestCharacterReceived b) s = after .muted []) ∧
    (∀ k p n, s.port.assembler = .assembling k none p n →
      (b = 0 → exec (.requestCharacterReceived b) s = after .idle [{ kind := k, length := 0, payload := [] }]) ∧
      (b ≠ 0 → exec (.requestCharacterReceived b) s = after (.assembling k (some b) [] 0) [])) ∧
    (∀ k len p n, s.port.assembler = .assembling k (some len) p n →
      let stored := if len.toNat ≤ 40 then p ++ [b] else p
      (n + 1 = len.toNat → exec (.requestCharacterReceived b) s =
        after .idle [{ kind := k, length := len, payload := stored }]) ∧
      (n + 1 ≠ len.toNat → exec (.requestCharacterReceived b) s = after (.assembling k (some len) stored (n + 1)) []))

/-- R189, R190: a record sent character by character, its kind, its length and as many payload characters, comes out of the
request assembler as that record, its payload stored where it has at most 40 characters; so it does when its characters
come as the samples of their ten bits each, back to back on a line at the level of a stop bit. What a lane port sends, byte
for byte, is such a record. -/
def Obligations.RequestRecordTransported : Prop :=
  ∀ (s : State) (kind length : Byte) (payload : List Byte), s.station.powerGood = true → s.port.assembler = .idle →
    payload.length = length.toNat →
    let characters := kind :: length :: payload
    let received : Host.Outcome State Fault Refusal := .next
      { s with port := { s.port with
          gap := 0
          complete := s.port.complete ++
            [{ kind := kind, length := length, payload := if length.toNat ≤ 40 then payload else [] }] } }
    execAll (characters.map Instr.requestCharacterReceived) s = received ∧
      execAll (sampleLanePort (.watching true) (samplesOf (characters.flatMap portCharacterBits))).2 s = received ∧
      (OutRecord.mk kind payload).bits = characters.flatMap portCharacterBits

/-- R190, R192, R194: a gap of more than 2 ms makes the assembler IDLE, a framing error MUTED, a partial record being
dropped by both; a complete record enters the input buffer, or with 4 there is dropped with PORT OVERRUN, whose value is
its kind byte; an output record that has been sent leaves the stream. Gap and record end act when they are commanded
(log 4), and a framing error starts the gap again (log 20): both are the model's choice. R189, R190: a validated start bit
and eight data bits followed by a stop bit that samples 7 to 9 read 0 are a framing error, and a start bit that they read 1
is none. While a record is in sending, its bit number `i` stands on the output from period 104 i on for one bit time; with
nothing to send, or without POWER GOOD, the output is at the level of a stop bit. -/
def Obligations.LanePortEvents : Prop :=
  ∀ s : State, s.station.powerGood = true →
    exec .requestGapTimeout s = .next { s with port := { s.port with assembler := .idle, gap := 0 } } ∧
    exec .lanePortFramingError s = .next { s with port := { s.port with assembler := .muted, gap := 0 } } ∧
    (∀ o more, s.port.output = o :: more →
      exec .outputRecordSent s = .next { s with port := { s.port with output := more, outElapsed := 0 } }) ∧
    (∀ r more, s.port.complete = r :: more →
      (s.port.buffer.length < 4 → exec .requestComplete s =
        .next { s with port := { s.port with complete := more, buffer := s.port.buffer ++ [r] } }) ∧
      (4 ≤ s.port.buffer.length → exec .requestComplete s = .next (refresh (occur .portOverrun
        { condition := .portOverrun, source := .port, title := none, value := some r.kind.toNat, event := none }
        { s with port := { s.port with complete := more } })))) ∧
    (∀ (d : Byte) (last : Bool), (sampleLanePort (.watching true)
      (samplesOf ((portCharacterBits d).take 9 ++ [false]) ++ [last])).2 = [.lanePortFramingError]) ∧
    (∀ n, 1 ≤ n → n ≤ 7 → (sampleLanePort (.watching true) (List.replicate n false ++ List.replicate 16 true)).2 = []) ∧
    (∀ o more (i n : Nat) (b : Bool), s.port.output = o :: more → o.bits[i]? = some b → n < 104 →
      portLevel { s with port := { s.port with outElapsed := 104 * i + n } } = b) ∧
    (s.port.output = [] → portLevel s = true) ∧
    portLevel { s with station := { s.station with powerGood := false } } = true

/-! ## Arrival queue -/

/-- R29 to R33, R107, R159: what PRESENT does short of a lookup. It is refused in every state but RUN, on an observer, and
with 8 records; otherwise the record takes the tag counter's value and stands at the tail with the mass of R31, the
class of its title and the configured dwell. A failed pretest rejects it with IDENTIFIER FAULT; a winning watch entry that
diverts holds it with WATCH MATCH, its hits one higher. The DONE reply carries the tag. -/
def Obligations.PresentRefusedOrDecided : Prop :=
  ∀ (s : State) (rest : List Request) (chars : List Byte) (p0 p1 m0 m1 : Byte), chars.length = 13 →
    Serving s { kind := 1, length := 17, payload := chars ++ [p0, p1, m0, m1] } rest →
    let part := p1 ++ p0
    let m := (m1 ++ m0).toNat
    let mass : Mass :=
      if m = 0 ∨ m = 65535 then .absent else if m ≤ 60000 then .usable m else .clamped
    let tag := s.arrival.nextTag
    let it : Item :=
      { tag := tag, chars := chars, part := part, mass := mass, cls := s.rules.classOfChars chars, stage := .decided
        deadline := s.rules.dwell, accepted := s.arrival.accepted }
    let key : TitleKey := { digits := chars.map digitOfChar, part := part }
    let accept (x : Item) (s : State) : State :=
      { s with arrival := { s.arrival with
          items := s.arrival.items ++ [x], nextTag := tag + 1, accepted := s.arrival.accepted + 1 } }
    (s.station.state ≠ .run → exec .present s = .next (s.replied rest [1, 3])) ∧
    (s.station.state = .run → s.station.observer = true → exec .present s = .next (s.replied rest [1, 6])) ∧
    (s.station.state = .run → s.station.observer = false → 8 ≤ s.arrival.items.length →
      exec .present s = .next (s.replied rest [1, 4])) ∧
    (s.station.state = .run → s.station.observer = false → s.arrival.items.length < 8 →
      (∀ x ∈ s.arrival.items, x.tag ≠ tag) →
      (pretest chars part = false →
        exec .present s = .next (refresh (State.replied (occur .identifierFault
          { condition := .identifierFault, source := .ownItem tag, title := some { chars := chars, part := part } }
          (accept { it with disposition := some .reject } s)) rest [1, 0, tag]))) ∧
      (∀ (i : Nat) (w : WatchEntry), pretest chars part = true → scanFrom key .presented s.watch 0 = some i →
        s.watch[i]? = some w → w.divert = true →
        exec .present s = .next (refresh (State.replied (occur .watchMatch
          { condition := .watchMatch, source := .ownItem tag, title := some { chars := chars, part := part }
            value := some i, event := some .presented }
          (accept { it with disposition := some .hold, reason := .watch, watchMatch := some i }
            { s with watch := s.watch.set i { w with hits := min 255 (w.hits + 1) } })) rest [1, 0, tag]))))

/-- R7, R34, R84, R85, R139 (with R2, R3, R22): the lookup of an accepted item. A CERTAIN entry is touched and gains a pin,
and the item's CLAIM is queued; an UNSURE entry does likewise, and no entry with room left creates a placeholder with one
pin, and then the item joins the inquiry pending for its title or opens one and its INQUIRY is queued. With 512 entries an
eviction makes the room first (R22, `makeRoom`). A parity error, of the entry or in the eviction search, leaves the item
INQUIRING without an inquiry and halts the station; that its DONE reply stands ahead of every record the halt releases,
those of earlier items among them, is the model's choice (log 6). -/
def Obligations.PresentLooksUp : Prop :=
  ∀ (s : State) (rest : List Request) (chars : List Byte) (p0 p1 m0 m1 : Byte), chars.length = 13 →
    Serving s { kind := 1, length := 17, payload := chars ++ [p0, p1, m0, m1] } rest →
    s.station.state = .run → s.station.observer = false → s.arrival.items.length < 8 →
    (∀ x ∈ s.arrival.items, x.tag ≠ s.arrival.nextTag) →
    let tag := s.arrival.nextTag
    let key : TitleKey := { digits := chars.map digitOfChar, part := p1 ++ p0 }
    let place := s.arrival.accepted
    pretest chars (p1 ++ p0) = true →
    ∀ (found : Option Nat), scanFrom key .presented s.watch 0 = found →
    (∀ i ∈ found, ((s.watch[i]?).map WatchEntry.divert).getD false = false) →
    let it : Item :=
      { tag := tag, chars := chars, part := p1 ++ p0, mass := massIntake (m1 ++ m0), cls := s.rules.classOfChars chars
        watchMatch := found, deadline := s.rules.dwell, pinned := true, accepted := place }
    let accept (stage : Stage) (table : List Entry) : State :=
      { s with
        watch := match found with
          | some i => s.watch.modify i fun w => { w with hits := min 255 (w.hits + 1) }
          | none => s.watch
        tally := { s.tally with table := table }
        arrival := { s.arrival with
          items := s.arrival.items ++ [{ it with stage := stage }], nextTag := tag + 1, accepted := place + 1 } }
    let inquire (table : List Entry) : State :=
      let t := accept .inquiring table
      if (s.inquiry.inquiries.any fun q => q.key = key) then
        { t with inquiry := { s.inquiry with inquiries := s.inquiry.inquiries.map fun q =>
            if q.key = key then { q with waiting := q.waiting ++ [tag] } else q } }
      else
        { t with
          inquiry := { s.inquiry with inquiries := s.inquiry.inquiries ++
            [{ key := key, waiting := [tag], stage := .queued, window := none }] }
          access := { s.access with queue := s.access.queue ++ [{ owner := .inquiry key, place := place }] } }
    let others := s.tally.table.filter fun e => e.key ≠ key
    let placeholder : Entry :=
      { key := key, count := 0, refMass := none, certainty := .unsure, lastClaim := none, pins := 1 }
    let halts (bad : TitleKey) : Prop :=
      exec .present s = .next (refresh (memoryFault bad (State.replied
        (accept .inquiring s.tally.table |> fun t => { t with arrival := { t.arrival with
          items := s.arrival.items ++ [{ it with pinned := false }] } }) rest [1, 0, tag])))
    (∀ e, findEntry s.tally.table key = some e → e.parityOk = true → e.certainty = .certain →
      exec .present s = .next (refresh (State.replied
        { accept .queued ({ e with pins := e.pins + 1 } :: others) with
          access := { s.access with queue := s.access.queue ++ [{ owner := .claim tag, place := place }] } }
        rest [1, 0, tag]))) ∧
    (∀ e, findEntry s.tally.table key = some e → e.parityOk = true → e.certainty = .unsure →
      exec .present s = .next (refresh (State.replied (inquire ({ e with pins := e.pins + 1 } :: others)) rest [1, 0, tag]))) ∧
    (findEntry s.tally.table key = none → s.tally.table.length < 512 →
      exec .present s = .next (refresh (State.replied (inquire (placeholder :: s.tally.table)) rest [1, 0, tag]))) ∧
    (∀ room, findEntry s.tally.table key = none → 512 ≤ s.tally.table.length →
      makeRoom s.rules s.tally.table = .ok room →
      exec .present s = .next (refresh (State.replied (inquire (placeholder :: room)) rest [1, 0, tag]))) ∧
    (∀ bad, findEntry s.tally.table key = none → makeRoom s.rules s.tally.table = .error bad → halts bad) ∧
    (∀ e, findEntry s.tally.table key = some e → e.parityOk = false → halts e.key)

/-- R49, R50, R167: decided records at the head are released in order while the output stream holds fewer than 8
DISPOSITION records, each as a record of the 27 bytes of 11.5.3; the first that is undecided, or the eighth unsent record,
stops it; the deferred conditions become pending where the queue is left empty by it. A CLEAR WORK still in handling ends
at the release that empties the queue: the four sets clear, and its DONE reply follows the last record (R52, R188). In
HALTED the sets are not cleared, and the reply follows all the same (R188); a release that leaves records behind leaves it in
handling. -/
def Obligations.DispositionRelease : Prop :=
  ∀ s : State, s.station.powerGood = true →
    let record (it : Item) : OutRecord :=
      { kind := 241
        payload := [it.tag] ++ it.chars ++ wordBytes it.part.toNat ++
          wordBytes (match it.mass with | .usable g => g | .clamped => 60000 | .absent => 65535) ++
          [byteOf it.cls, (it.disposition.map Disposition.code).getD 0, if it.completed then 1 else 0,
            byteOf (it.ordinal.getD 0), it.reason.code, it.massCheck.code,
            if it.mass = .clamped then 1 else 0, if it.corrected then 1 else 0, 0] }
    (∃ (gone stay : List Item), s.arrival.items = gone ++ stay ∧ (∀ it ∈ gone, it.stage = .decided) ∧
        (∀ it ∈ stay.head?, it.stage ≠ .decided ∨ 8 ≤ dispositionCount s.port.output + gone.length) ∧
        (gone ≠ [] → dispositionCount s.port.output + gone.length ≤ 8) ∧
        let emptied := gone ≠ [] ∧ stay = []
        let released : State :=
          { s with
            arrival := { s.arrival with items := stay }
            port := { s.port with output := s.port.output ++ gone.map record }
            cond := { s.cond with
              pending := if emptied then s.cond.pending ||| s.cond.deferred else s.cond.pending
              deferred := if emptied then 0 else s.cond.deferred } }
        (s.port.clearing = false ∨ stay ≠ [] → exec .dispositionRelease s = .next (refresh released)) ∧
        (∀ (r : Request) (rest : List Request), s.port.clearing = true → s.station.state = .halted → stay = [] →
          s.port.buffer = r :: rest → exec .dispositionRelease s = .next (refresh
            { released with port := { released.port with
              clearing := false, buffer := rest
              output := released.port.output ++ [{ kind := 240, payload := [r.kind, 0] }] } }))) ∧
    (∀ (r : Request) (rest : List Request), s.port.clearing = true → s.station.state ≠ .halted →
      s.port.buffer = r :: rest → (∀ it ∈ s.arrival.items, it.stage = .decided) →
      dispositionCount s.port.output + s.arrival.items.length ≤ 8 →
      exec .dispositionRelease s = .next (refresh
        { s with
          arrival := { s.arrival with items := [] }
          port := { s.port with
            clearing := false, buffer := rest
            output := s.port.output ++ s.arrival.items.map record ++ [{ kind := 240, payload := [r.kind, 0] }] }
          cond := { s.cond with recorded := 0, deferred := 0, pending := 0, inService := 0 } }))

/-- R44, R117: a tick of the dwell clock with BELT RUNNING asserted takes 1 ms from the deadline of every undecided item
above 0, in every state but HALTED, and a tick with it deasserted takes nothing. R45 to R48, R85, R91: what a deadline at 0
does, by the item's stage. INQUIRING: the item leaves its inquiry, whose
entry takes the place of the next waiting item; with none left the inquiry goes, its INQUIRY withdrawn if queued and left
to run without retry if in flight; the item is held. QUEUED: its CLAIM is withdrawn and it is held. ON LINE: its CLAIM in
flight is marked no-retry. SETTLING: it is held with the ordinal it has. The tick of the
dwell clock acts when it is commanded (log 4, the model's choice). -/
def Obligations.DeadlinesRunAndExpire : Prop :=
  (∀ (s : State) (b : Bool), s.station.powerGood = true →
    exec (.dwellClockTick b) s = .next
      { s with arrival := { s.arrival with
          belt := b
          items := if b = true ∧ s.station.state ≠ .halted then
              s.arrival.items.map fun it =>
                if it.stage ≠ .decided ∧ 0 < it.deadline then { it with deadline := it.deadline - 1 } else it
            else s.arrival.items } }) ∧
  ∀ (s : State) (tag : Byte) (it : Item), s.station.powerGood = true → s.station.state.transmits = true →
    s.arrival.find tag = some it → it.deadline = 0 →
    let queue := s.access.queue
    let hold (s : State) : Host.Outcome State Fault Refusal := .next (refresh (decideItem tag .hold .deadline s))
    (it.stage = .inquiring →
      (s.inquiry.find it.key = none → exec (.deadlineExpiry tag) s = hold s) ∧
      (∀ q, s.inquiry.find it.key = some q →
        (∀ (next : Byte) (others : List Byte), q.waiting.filter (· ≠ tag) = next :: others →
          exec (.deadlineExpiry tag) s = hold
            { s with
              inquiry := { s.inquiry with inquiries := s.inquiry.inquiries.map fun x =>
                if x.key = it.key then { x with waiting := next :: others } else x }
              access := { s.access with
                queue := queue.map fun e =>
                if e.owner = .inquiry it.key then
                  { e with place := ((s.arrival.find next).map Item.accepted).getD 0 } else e } }) ∧
        (q.waiting.filter (· ≠ tag) = [] →
          exec (.deadlineExpiry tag) s = hold
            { s with
              inquiry := { s.inquiry with inquiries := s.inquiry.inquiries.filter fun x => x.key ≠ it.key }
              access := { s.access with
                queue := match q.stage with
                | .queued => queue.filter fun e => e.owner ≠ .inquiry it.key
                | .sending => queue.map fun e =>
                    if e.owner = .inquiry it.key then { e with owner := .closedInquiry, noRetry := true } else e
                | .window => queue } }))) ∧
    (it.stage = .queued → exec (.deadlineExpiry tag) s = hold
      { s with access := { s.access with queue := queue.filter fun e => e.owner ≠ .claim tag } }) ∧
    (it.stage = .onLine → exec (.deadlineExpiry tag) s = .next (refresh
      { s with
        access := { s.access with
          queue := queue.map fun e => if e.owner = .claim tag ∧ e.inFlight = true then { e with noRetry := true } else e } })) ∧
    (it.stage = .settling → exec (.deadlineExpiry tag) s = hold s)

/-- R42, R111: at a settle expiry, which acts when it is commanded (log 4, the model's choice), the ordinal is mapped under
the item's class: to PRESERVE up to p, STOCK up to p + s, SURPLUS above, and the item is decided with that disposition. R48:
the settle timer of an item decided before it ran out was cancelled and does not expire; that an expiry commanded for any
other item without a running timer changes nothing either is the model's choice (log 1). -/
def Obligations.SettleExpiryMapsOrdinal : Prop :=
  ∀ (s : State) (tag : Byte) (it : Item), s.station.powerGood = true → s.arrival.find tag = some it →
    (∀ (k : Nat) (c : RuleClass) (time : Nat), s.station.state.transmits = true → it.stage = .settling →
      it.ordinal = some k → s.rules.classes[it.cls]? = some c → it.settle = some time → 1 ≤ k →
      ∃ d, exec (.settleExpiry tag) s = .next (refresh (decideItem tag d .none s)) ∧
        (k ≤ c.p → d = .preserve) ∧ (c.p < k ∧ k ≤ c.p + c.s → d = .stock) ∧ (c.p + c.s < k → d = .surplus)) ∧
    (it.stage = .decided → exec (.settleExpiry tag) s = .next s) ∧
    (it.settle = none → exec (.settleExpiry tag) s = .next s)

/-! ## Rule unit, tally table, watch list, deferral -/

/-- R107, R108: the pretest passes exactly when the identifier's 13 characters are digits, the part number is at most 9999,
and the 13th digit is the one computed from the sum of the first twelve with the weights 3, 7 and 9. As R108's notes say, a
single digit changed in an identifier that passes makes it fail, and of the first twelve two adjacent digits exchanged go
unnoticed exactly when they are equal or differ by 5. -/
def Obligations.PretestChecksDigit : Prop :=
  ∀ (chars : List Byte) (part : BitVec 16), chars.length = 13 →
    let digit (i : Nat) : Nat := (chars.getD i 0).toNat - 48
    let decimal := ∀ c ∈ chars, 48 ≤ c.toNat ∧ c.toNat ≤ 57
    let sum := 3 * (digit 0 + digit 3 + digit 6 + digit 9) + 7 * (digit 1 + digit 4 + digit 7 + digit 10) +
      9 * (digit 2 + digit 5 + digit 8 + digit 11)
    (pretest chars part = true ↔ decimal ∧ part.toNat ≤ 9999 ∧ digit 12 = (10 - sum % 10) % 10) ∧
    (decimal → sum ≤ 684) ∧
    (∀ (i : Nat) (c : Byte), i < 13 → c ≠ chars.getD i 0 → pretest chars part = true →
      pretest (chars.set i c) part = false) ∧
    (∀ i, i < 11 → pretest chars part = true →
      (pretest ((chars.set i (chars.getD (i + 1) 0)).set (i + 1) (chars.getD i 0)) part = true ↔
        digit i = digit (i + 1) ∨ digit i = digit (i + 1) + 5 ∨ digit (i + 1) = digit i + 5))

/-- R105, R106: the class of a title is that of the first range that is enabled and holds the number its first five digits
make, and 0 where no range holds it or one of the five is no digit; so it is for a title key and for an identifier as
received (R32), whatever characters stand behind the fifth. That a frame's key with a digit above 9 behind the fifth keeps
its class is the model's choice (log 33). -/
def Obligations.ClassOfTitle : Prop :=
  ∀ (r : Rules) (a b c d e : BitVec 4) (rest : List (BitVec 4)) (part : BitVec 16),
    let k : TitleKey := { digits := a :: b :: c :: d :: e :: rest, part := part }
    let publisher := 10000 * a.toNat + 1000 * b.toNat + 100 * c.toNat + 10 * d.toNat + e.toNat
    let decimal := a.toNat ≤ 9 ∧ b.toNat ≤ 9 ∧ c.toNat ≤ 9 ∧ d.toNat ≤ 9 ∧ e.toNat ≤ 9
    let holds (g : PublisherRange) : Prop := g.enable = true ∧ g.low ≤ publisher ∧ publisher ≤ g.high
    (∀ (i : Nat) (g : PublisherRange), decimal → r.ranges[i]? = some g → holds g →
      (∀ j < i, ∀ x, r.ranges[j]? = some x → ¬ holds x) → r.classOfKey k = g.cls) ∧
    ((∀ g ∈ r.ranges, ¬ holds g) ∨ ¬ decimal → r.classOfKey k = 0) ∧
    (∀ chars : List Byte, (∀ x ∈ chars.take 5, 48 ≤ x.toNat ∧ x.toNat ≤ 57) →
      (chars.take 5).map digitOfChar = [a, b, c, d, e] → r.classOfChars chars = r.classOfKey k) ∧
    (∀ chars : List Byte, (∃ x ∈ chars.take 5, x.toNat < 48 ∨ 57 < x.toNat) → r.classOfChars chars = 0)

/-- R109, R110: the mass check is SKIPPED without a count of 1 or more, a reference mass and a usable item mass; otherwise
it is MATCH exactly within the band of R109, max(f, (ref × r + 512) / 1024 rounded down), on either side. The band is at
most 14941 g, and f where r is 0. -/
def Obligations.MassCheckBand : Prop :=
  ∀ (c : RuleClass) (count : Nat) (ref : Option Nat) (mass : Mass),
    ((count = 0 ∨ ref = none ∨ (∀ g, mass ≠ .usable g)) → massCheck c count ref mass = .skipped) ∧
    (∀ m x, 1 ≤ count → ref = some x → mass = .usable m →
      let band := max c.f ((x * c.r + 512) / 1024)
      (m ≤ x + band ∧ x ≤ m + band → massCheck c count ref mass = .matched) ∧
      (¬ (m ≤ x + band ∧ x ≤ m + band) → massCheck c count ref mass = .mismatch) ∧
      (x ≤ 60000 → c.r ≤ 255 → c.f ≤ 255 → band ≤ 14941) ∧ (c.r = 0 → band = c.f))

/-- R142: the deferral in bit times, of base, yield and backoff. For one attempt count no two lanes have the same backoff,
nor, at one yield flag, the same deferral; the backoff lies in 16 to 496 and the deferral in 26 to 646. -/
def Obligations.DeferralSeparatesLanes : Prop :=
  let backoff (l : Lane) (a : Nat) : Nat := if a = 0 then 0 else 16 * ((l.toNat + 7 * a) % 31 + 1)
  (∀ (l : Lane) (y : Bool) (a : Nat), deferral l y a = 24 + 2 * l.toNat + (if y then 64 else 0) + backoff l a) ∧
  (∀ (l m : Lane) (y : Bool) (a : Nat), l ≠ 0 → m ≠ 0 →
    (a ≠ 0 → 16 ≤ backoff l a ∧ backoff l a ≤ 496 ∧ (backoff l a = backoff m a → l = m)) ∧
    (deferral l y a = deferral m y a → l = m)) ∧
  (∀ (l : Lane) (y : Bool) (a : Nat), l ≠ 0 → 26 ≤ deferral l y a ∧ deferral l y a ≤ 646)

/-- R154, R156: the winner of a scan is the first entry that is valid, whose title key matches and whose mask holds the
event, among the entries up to the first that ends the list; there is no winner otherwise, and a winner's hits rise by
one up to 255, the other entries staying. -/
def Obligations.WatchScanFindsWinner : Prop :=
  ∀ (list : List WatchEntry) (k : TitleKey) (e : WatchEvent),
    let wins (w : WatchEntry) : Prop :=
      w.valid = true ∧ w.digits = k.digits ∧ (∀ p, w.part = some p → p = k.part) ∧
        w.events.getLsbD (match e with | .presented => 0 | .counted => 1 | .completed => 2 | .surplus => 3) = true
    (∀ i, scanFrom k e list 0 = some i ↔
      ∃ before w behind, list = before ++ w :: behind ∧ before.length = i ∧ wins w ∧
        ∀ x ∈ before, ¬ wins x ∧ x.endOfList = false) ∧
    (∀ before w behind, list = before ++ w :: behind →
      addHit list before.length = before ++ { w with hits := min 255 (w.hits + 1) } :: behind)

/-- R8, R11, R13, R14, R17: what the tally engine's applications make of the table, parity holding: the held entry is
touched and takes the maximum the rule names, adopting a mass only where it has none; a title not held is created by a
CLAIM or by a CORRECTION with a value above 0, and never by an ANSWER. R22: with 512 entries an unpinned entry leaves
for a new one, the least recently touched whose count is at its full requirement, or where none is, the least recently
touched; the others keep their order. With fewer entries none leaves. -/
def Obligations.TallyTableOperations : Prop :=
  ∀ (r : Rules) (t : List Entry) (lane : Lane),
    (∀ (f : ClaimFields),
      (∀ e, findEntry t f.key = some e → e.parityOk = true →
        let n := min 63 (max e.count f.basis + 1)
        applyClaim r t lane f = .ok
          { table := { e with
              count := n, lastClaim := some (lane, f.seq)
              refMass := if e.refMass = none then f.mass else e.refMass } :: t.filter (fun x => x.key ≠ f.key)
            counts := some (e.count, n), held := true }) ∧
      (∀ room, findEntry t f.key = none → makeRoom r t = .ok room →
        let n := min 63 (f.basis + 1)
        applyClaim r t lane f = .ok
          { table := { key := f.key, count := n, refMass := f.mass, certainty := .unsure,
                       lastClaim := some (lane, f.seq), pins := 0 } :: room
            counts := some (0, n), held := false })) ∧
    (∀ (f : CorrectionFields),
      (∀ e, findEntry t f.key = some e → e.parityOk = true →
        applyCorrection r t f = .ok
          { table := { e with count := max e.count f.value } :: t.filter (fun x => x.key ≠ f.key)
            counts := some (e.count, max e.count f.value), held := true }) ∧
      (findEntry t f.key = none → f.value = 0 → applyCorrection r t f = .ok { table := t, counts := none, held := false }) ∧
      (∀ room, findEntry t f.key = none → f.value ≠ 0 → makeRoom r t = .ok room →
        applyCorrection r t f = .ok
          { table := { key := f.key, count := f.value, refMass := none, certainty := .unsure, lastClaim := none,
                       pins := 0 } :: room
            counts := some (0, f.value), held := false })) ∧
    (∀ (f : AnswerFields),
      (∀ e, findEntry t f.key = some e → e.parityOk = true →
        mergeAnswer t f = .ok
          { table := { e with
              count := max e.count f.count
              refMass := if e.refMass = none then f.refMass else e.refMass } :: t.filter (fun x => x.key ≠ f.key)
            counts := some (e.count, max e.count f.count), held := true }) ∧
      (findEntry t f.key = none → mergeAnswer t f = .ok { table := t, counts := none, held := false })) ∧
    (t.length < 512 → makeRoom r t = .ok t) ∧
    ((∀ e ∈ t, e.parityOk = true) → 512 ≤ t.length → r.classes.length = 4 → (∀ g ∈ r.ranges, g.cls ≤ 3) →
      let full (e : Entry) : Prop := e.pins = 0 ∧
        ∀ c, r.classes[r.classOfKey e.key]? = some c → c.p + c.s ≤ e.count
      ∀ (newer : List Entry) (victim : Entry) (older : List Entry), t = newer ++ victim :: older →
        (full victim ∧ (∀ e ∈ older, ¬ full e)) ∨
          (victim.pins = 0 ∧ (∀ e ∈ t, ¬ full e) ∧ ∀ e ∈ older, e.pins ≠ 0) →
        makeRoom r t = .ok (newer ++ older))

/-! ## Dock line: receiver, assembler, frame check -/

/-- R118, R120, R121: the 176 samples of a character as a station sends it are received as that character, not noisy; one of
the 33 sampled places inverted leaves its data and mark bits and makes it noisy. R120, R122: a start bit with two of its
three samples 1 is a false start and reported to nobody; a stop bit of 0 is a framing error where the line reads high within
13 bit times of the start, and a break where it does not. Sample by sample, the receiver reports the start bit and the
character, the framing error, or the break and its end. Its wait for high line ends after 11 bit times of reading high, which
the model counts as 178 consecutive samples of 1 (log 38), and then, and only from a sample of 1, a sample of 0 is a falling
edge. The 208th sample is the last within the 13 bit times (log 41, the model's choice). R119: a bit time has 208, 104, 52 or
26 reference periods by the rate strap, and its 16 sample intervals as many of one period more than the whole part of the
divisor as the divisor has sixteenths, whichever they are (log 42); a line driven by a transmitter and sampled so from its
first boundary on, or so little later that the last sample of a bit still falls in it, yields 16 samples of each bit. -/
def Obligations.CharacterReceived : Prop :=
  let watching : Sampler := .watching true
  let broken (d : Byte) (m : Bool) (n : Nat) : List Bool :=
    samplesOf ((characterBits d m).take 10 ++ [false]) ++ List.replicate n false ++ List.replicate 3 true
  let character (d : Byte) (m noisy : Bool) : Instr :=
    if m then .headerReceived d noisy else .payloadCharacterReceived d noisy
  (∀ (d : Byte) (m : Bool), receive (samplesOf (characterBits d m)) = .character d m false ∧
    sampleDockLine watching (samplesOf (characterBits d m)) = (watching, [.startBitSeen, character d m false])) ∧
  (∀ (d : Byte) (m : Bool) (k j : Nat), k < 11 → 6 ≤ j → j ≤ 8 →
    receive ((samplesOf (characterBits d m)).modify (16 * k + j) not) = .character d m true) ∧
  (∀ (samples : List Bool) (i j : Nat), 6 ≤ i → i < j → j ≤ 8 → samples[i]? = some true → samples[j]? = some true →
    receive samples = .falseStart ∧ (receive samples).command = none) ∧
  (∀ (d : Byte) (m : Bool) (n : Nat),
    (n ≤ 29 → receive (broken d m n) = .framingError ∧
      sampleDockLine watching (broken d m n) = (watching, [.startBitSeen, .dockFramingError])) ∧
    (30 ≤ n → receive (broken d m n) = .lineBreak ∧
      sampleDockLine watching (broken d m n) = (watching, [.startBitSeen, .lineBreak, .breakEnd]))) ∧
  (∀ n, receive (List.replicate (208 + n) false) = .lineBreak) ∧
  (∀ n, sampleDockLine (.waitingHigh 0) (List.replicate n true) =
    if n < 178 then (.waitingHigh n, []) else (watching, [.highLineWaitEnd])) ∧
  (∀ n, sampleDockLine (.waitingHigh n) [false] = (.waitingHigh 0, [])) ∧
  (∀ last b, sampleDockLine (.watching last) [b] =
    (if last = true ∧ b = false then .inCharacter [false] else .watching b, [])) ∧
  [0, 1, 2, 3].map bitPeriods = [208, 104, 52, 26] ∧
  (∀ rate : BitVec 2,
    let lengths := (List.range 16).map (sampleInterval rate)
    let whole := bitPeriods rate / 16
    lengths.sum = bitPeriods rate ∧ (∀ x ∈ lengths, x = whole ∨ x = whole + 1) ∧
      lengths.count (whole + 1) = bitPeriods rate % 16) ∧
  (∀ (rate : BitVec 2) (bits : List Bool) (start : Nat), start < sampleInterval rate 15 →
    sampleLine rate (levelAt (bitPeriods rate) bits) start (16 * bits.length) = samplesOf bits)

/-- R123, R125 to R128: what the frame assembler makes of a header, of an unmarked character, of a framing error and of a
break, at a station that listens. The line is idle again after the first three and busy in a break. A header with an
invalid kind or lane 0 is discarded; a partial frame ended by a new mark or by a framing error goes to the unconfirmed
list with its own header, and one ended by a break goes nowhere and takes the list with it. -/
def Obligations.AssemblerTakesCharacters : Prop :=
  ∀ s : State, Listening s →
    let idle : Transceiver := { s.line with receiver := .idle, idle := 0 }
    let discard (h : Byte) : Discard := { lane := BitVec.ofNat 5 (h.toNat % 32), kind := BitVec.ofNat 3 (h.toNat / 32) }
    (∀ (data : Byte) (noisy : Bool),
      let before : State := match s.line.assembler with
        | .assembling f => placeDiscard (discard f.header) { s with line := idle }
        | .muted => { s with line := idle }
      let valid := 1 ≤ data.toNat / 32 ∧ data.toNat / 32 ≤ 5 ∧ data.toNat % 32 ≠ 0
      (valid → exec (.headerReceived data noisy) s = .next (refresh { before with line := { before.line with
        assembler := .assembling { header := data, chars := [], noisy := if noisy then 1 else 0 } } })) ∧
      (¬ valid → exec (.headerReceived data noisy) s = .next (refresh
        { placeDiscard (discard data) before with line :=
          { (placeDiscard (discard data) before).line with assembler := .muted } }))) ∧
    (∀ (data : Byte) (noisy : Bool),
      (s.line.assembler = .muted → exec (.payloadCharacterReceived data noisy) s = .next { s with line := idle }) ∧
      (∀ f kind, s.line.assembler = .assembling f → kindOfCode (headerKind f.header) = some kind →
        let grown : RawFrame :=
          { f with chars := f.chars ++ [data], noisy := f.noisy + if noisy then 1 else 0 }
        (f.chars.length + 1 ≠ kind.payloadLength + 2 → exec (.payloadCharacterReceived data noisy) s =
          .next { s with line := { idle with assembler := .assembling grown } }) ∧
        (f.chars.length + 1 = kind.payloadLength + 2 → exec (.payloadCharacterReceived data noisy) s =
          .next { s with line := { idle with assembler := .muted, atCheck := s.line.atCheck ++ [grown] } }))) ∧
    (s.line.assembler = .muted → exec .dockFramingError s = .next { s with line := idle }) ∧
    (∀ f, s.line.assembler = .assembling f → exec .dockFramingError s = .next (refresh
      (placeDiscard (discard f.header) { s with line := { idle with assembler := .muted } }))) ∧
    exec .lineBreak s =
      .next { s with line := { s.line with receiver := .inBreak, idle := 0, assembler := .muted, discards := [] } }

/-- R120, R122, R123: the line becomes idle, its idle time at 0, when a break ends and when the wait for high line ends; a
validated start bit makes an idle line busy. That the end of the wait acts when it is commanded (log 4), and that none of
the three does anything in another receiver state (log 1), is the model's choice. -/
def Obligations.LineBusyAndIdle : Prop :=
  ∀ s : State, s.station.powerGood = true →
    (s.line.receiver = .inBreak → exec .breakEnd s = .next { s with line := { s.line with receiver := .idle, idle := 0 } }) ∧
    (s.line.receiver = .waitingHigh →
      exec .highLineWaitEnd s = .next { s with line := { s.line with receiver := .idle, idle := 0 } }) ∧
    (s.line.receiver = .idle →
      exec .startBitSeen s = .next { s with line := { s.line with receiver := .inCharacter, idle := 0 } }) ∧
    (s.line.receiver ≠ .inBreak → exec .breakEnd s = .next s) ∧
    (s.line.receiver ≠ .waitingHigh → exec .highLineWaitEnd s = .next s) ∧
    (s.line.receiver ≠ .idle → exec .startBitSeen s = .next s)

/-- R129, R132, R135 (with R18, R19): a confirmed discard records LINE CHECK with the lane and kind of its header, advances
the epoch by one and makes every entry UNSURE. A discard placed with 4 on the list confirms the oldest first; 22 bit
times of idle line confirm a waiting one, and with it a truncated frame's, the oldest going before it where 4 are on the
list. The two commands act whatever idle time the model has counted (log 4), and DISCARD_CONFIRMED confirms the oldest
discard alone (log 25): both are the model's choice. -/
def Obligations.DiscardsConfirmed : Prop :=
  ∀ s : State,
    let confirmed (d : Discard) (s : State) : State :=
      { occur .lineCheck
          { condition := .lineCheck, source := .line d.lane, title := none, value := some d.kind.toNat, event := none } s with
        tally := { table := s.tally.table.map fun e => { e with certainty := .unsure }, epoch := s.tally.epoch + 1 } }
    (∀ d, s.line.discards.length < 4 →
      placeDiscard d s = { s with line := { s.line with discards := s.line.discards ++ [d] } }) ∧
    (∀ d oldest more, s.line.discards = oldest :: more → 4 ≤ s.line.discards.length →
      placeDiscard d s = confirmed oldest { s with line := { s.line with discards := more ++ [d] } }) ∧
    (s.station.powerGood = true → s.station.state.receives = true → s.line.receiver = .idle →
      s.access.unit ≠ .sending → s.access.unit ≠ .jamming →
      (∀ d more, s.line.discards = d :: more →
        exec .discardConfirmed s = .next (refresh (confirmed d { s with line := { s.line with discards := more } }))) ∧
      (∀ f, s.line.assembler = .assembling f → s.line.discards.length < 4 →
        exec .truncation s = .next (refresh (confirmed
          { lane := BitVec.ofNat 5 (f.header.toNat % 32), kind := BitVec.ofNat 3 (f.header.toNat / 32) }
          { s with line := { s.line with assembler := .muted } }))) ∧
      (∀ f oldest more, s.line.assembler = .assembling f → s.line.discards = oldest :: more →
        4 ≤ s.line.discards.length →
        exec .truncation s = .next (refresh (confirmed
          { lane := BitVec.ofNat 5 (f.header.toNat % 32), kind := BitVec.ofNat 3 (f.header.toNat / 32) }
          (confirmed oldest { s with line := { s.line with assembler := .muted, discards := more } })))))

/-- R131, R133, R135 (with R19): a frame complete in form that fails its check is discarded; one that passes takes an empty
receive slot with its place in line order, LINE NOISE being recorded if a character was noisy; with both slots occupied
it is lost to LINE OVERRUN and the epoch advances. Of two empty
slots the first is taken by the model's choice (log 34). -/
def Obligations.FrameCheckedAndStored : Prop :=
  ∀ (s : State) (f : RawFrame) (more : List RawFrame) (kind : FrameKind), s.station.powerGood = true →
    s.station.state.receives = true → s.line.atCheck = f :: more → kindOfCode (headerKind f.header) = some kind →
    let lane := headerLane f.header
    let payload := f.chars.take kind.payloadLength
    let frame : StoredFrame := { kind := kind, lane := lane, payload := payload, order := s.line.nextOrder }
    let detail (c : Condition) : Detail :=
      { condition := c, source := .line lane, title := (frameKey kind payload).map portKey, value := some kind.code
        event := none }
    let taken : Transceiver := { s.line with atCheck := more }
    let noted (s : State) : State := if f.noisy = 0 then s else occur .lineNoise (detail .lineNoise) s
    (passesCheck f = false → exec .peerFrameComplete s =
      .next (refresh (placeDiscard { lane := lane, kind := headerKind f.header } { s with line := taken }))) ∧
    (passesCheck f = true → s.line.slot1 = none → exec .peerFrameComplete s = .next (refresh (noted
      { s with line := { taken with slot1 := some frame, nextOrder := s.line.nextOrder + 1 } }))) ∧
    (passesCheck f = true → s.line.slot1 ≠ none → s.line.slot2 = none → exec .peerFrameComplete s = .next (refresh (noted
      { s with line := { taken with slot2 := some frame, nextOrder := s.line.nextOrder + 1 } }))) ∧
    (passesCheck f = true → s.line.slot1 ≠ none → s.line.slot2 ≠ none → exec .peerFrameComplete s = .next (refresh
      { occur .lineOverrun (detail .lineOverrun)
          { s with line := { taken with nextOrder := s.line.nextOrder + 1 } } with
        tally := { table := s.tally.table.map fun e => { e with certainty := .unsure }, epoch := s.tally.epoch + 1 } }))

/-- R124 to R126, R130, R131, R133: every frame that a station sends arrives. The header, the payload and the two check
characters that the transmitter forms, received one after another by a listening station with a free slot, end as the
frame sent, whole, in that slot, and nothing else but the line transceiver's own state and the pins' refresh has moved. So
they do when they come as the samples of the bits the transmitter sends (R118, R120). Of two empty slots the first is taken
by the model's choice (log 34). -/
def Obligations.FrameTransported : Prop :=
  ∀ (s : State) (kind : FrameKind) (lane : Lane) (payload : List Byte), Listening s → s.line.assembler = .muted →
    s.line.atCheck = [] → s.line.slot1 = none → lane ≠ 0 → payload.length = kind.payloadLength →
    ∃ (head : Byte) (tail : List Byte), frameBytes kind lane payload = head :: tail ∧
      tail.length = kind.payloadLength + 2 ∧
      let arrived : State := refresh { s with line := { s.line with
          receiver := .idle, idle := 0, nextOrder := s.line.nextOrder + 1
          slot1 := some { kind := kind, lane := lane, payload := payload, order := s.line.nextOrder } } }
      execAll (.headerReceived head false :: tail.map (Instr.payloadCharacterReceived · false) ++ [.peerFrameComplete]) s =
        .next arrived ∧
      execAll ((sampleDockLine (.watching true) (samplesOf (frameBits kind lane payload))).2 ++ [.peerFrameComplete]) s =
        .next arrived

/-- 11.5.1, R9, R196: the payload a station builds for a frame reads back, at any station, as the fields it was built from:
the 13 digits and part number of the title key, counts to 63, masses of 1 to 60000 g or absent, and the greeting's role,
whose byte is 0 for the lane role by the model's choice (log 37). -/
def Obligations.PayloadsReadBack : Prop :=
  ∀ (k : TitleKey) (seq other : Byte) (lane : Lane) (n : Nat) (mass : Option Nat), k.digits.length = 13 → n ≤ 63 →
    (∀ g, mass = some g → 1 ≤ g ∧ g ≤ 60000) →
    readClaim (claimPayload seq k n mass) = { seq := seq, key := k, basis := n, mass := mass } ∧
    readCorrection (correctionPayload seq lane other k n) =
      { seq := seq, claimLane := BitVec.ofNat 8 lane.toNat, claimSeq := other, key := k, value := n } ∧
    readAnswer (answerPayload lane k n mass) =
      { inquirer := BitVec.ofNat 8 lane.toNat, key := k, count := n, refMass := mass } ∧
    readInquiry (inquiryPayload k) = k ∧
    (∀ observer, greetingPayload observer = [0, if observer then 1 else 0] ∧
      readRole (byteAt (greetingPayload observer) 1) = if observer then .observer else .lane) ∧
    (claimPayload seq k n mass).length = FrameKind.claim.payloadLength ∧
    (correctionPayload seq lane other k n).length = FrameKind.correction.payloadLength ∧
    (answerPayload lane k n mass).length = FrameKind.answer.payloadLength ∧
    (inquiryPayload k).length = FrameKind.inquiry.payloadLength

/-! ## Frames in line order -/

/-- R15, R155, R157, R158: after an application or merge the scanner is handed COUNTED for a CLAIM, COMPLETED where the count
rose to or across the full requirement, SURPLUS for a CLAIM above it, in this order; each win adds a hit and reports WATCH
MATCH with source LINE and the sender lane. R64, R65: the roster judgement on a peer CLAIM or CORRECTION. R68: a correction
scheduled holds off lane × 250 µs, under the model's next number (log 32); with 4 pending TRANSMIT BACKLOG is recorded in its place. -/
def Obligations.FrameHandOffs : Prop :=
  ∀ (s : State) (k : TitleKey) (lane : Lane) (seq : Byte),
    (∀ (isClaim : Bool) (old new : Nat),
      let full := s.rules.fullOfKey k
      ∃ events : List WatchEvent, scanApplied k lane isClaim (some (old, new)) s = events.foldl (scanLineEvent k lane) s ∧
        events.Pairwise (fun a b => a.index < b.index) ∧
        (.counted ∈ events ↔ isClaim = true) ∧ (.completed ∈ events ↔ old < full ∧ full ≤ new) ∧
        (.surplus ∈ events ↔ isClaim = true ∧ full < new) ∧ .presented ∉ events) ∧
    (∀ e : WatchEvent,
      (scanFrom k e s.watch 0 = none → scanLineEvent k lane s e = s) ∧
      (∀ i, scanFrom k e s.watch 0 = some i → scanLineEvent k lane s e = occur .watchMatch
        { condition := .watchMatch, source := .line lane
          title := some { chars := k.digits.map charOfDigit, part := k.part }, value := some i, event := some e }
        { s with watch := addHit s.watch i })) ∧
    (∀ kind : FrameKind, kind = .claim ∨ kind = .correction →
      let held := s.claim.roster.getD (lane.toNat - 1) {}
      let x : LaneRecord := { present := true, lastSeq := seq, role := if kind = .claim then .lane else held.role }
      let noted : State := { s with claim := { s.claim with roster := s.claim.roster.set (lane.toNat - 1) x } }
      (held.present = false ∨ seq.toNat = (held.lastSeq.toNat + 1) % 256 → rosterCheck kind lane seq k s = noted) ∧
      (held.present = true → seq.toNat ≠ (held.lastSeq.toNat + 1) % 256 →
        rosterCheck kind lane seq k s =
          { occur .tallyGap
              { condition := .tallyGap, source := .line lane
                title := some { chars := k.digits.map charOfDigit, part := k.part }, value := some kind.code } noted with
            tally := { table := s.tally.table.map fun e => { e with certainty := .unsure }
                       epoch := s.tally.epoch + 1 } })) ∧
    (∀ n : Nat,
      (s.claim.corrections.length < 4 → scheduleCorrection lane seq k n s =
        { s with claim := { s.claim with
            corrections := s.claim.corrections ++
              [{ number := s.claim.scheduled, claimLane := lane, claimSeq := seq, key := k, value := n, stage := .holding
                 holdOff := s.station.lane.toNat * 6000, drawn := none }]
            scheduled := s.claim.scheduled + 1 } }) ∧
      (4 ≤ s.claim.corrections.length → scheduleCorrection lane seq k n s = occur .transmitBacklog
        { condition := .transmitBacklog, source := .line lane
          title := some { chars := k.digits.map charOfDigit, part := k.part }, value := some 3 } s))

/-- R5, R11 to R13, R61, R71, R73, R74: a peer CLAIM and a peer CORRECTION in line order. The CLAIM is applied, scanned,
judged for the roster, and corrected where it found its entry held with a count above its basis, in JOINING, RUN and
PAUSED. The CORRECTION is applied, scanned and judged; naming this station's lane, it raises the item in SETTLING with
that claim sequence and marks it if it rose, or is recorded as LATE CORRECTION; and every pending correction of the same
claim, not yet SENDING and not above its value, is withdrawn, each with the queue entry of its own (log 32); the others and
their entries keep their order. A parity error halts the station instead (R3), and the frame leaves its store (log 14, the
model's inference) with nothing of it handed to the claim sequencer (log 39, the model's choice). -/
def Obligations.PeerClaimAndCorrectionHandled : Prop :=
  ∀ (s : State) (f : StoredFrame), Takes false f s → f.lane ≠ s.station.lane →
    (f.kind = .claim →
      let c := readClaim f.payload
      (∀ k, applyClaim s.rules s.tally.table f.lane c = .error k →
        exec .peerClaim s = .next (refresh (memoryFault k (s.freed f)))) ∧
      (∀ a, applyClaim s.rules s.tally.table f.lane c = .ok a →
        let scanned :=
          scanApplied c.key f.lane true a.counts { s.freed f with tally := { s.tally with table := a.table } }
        let judged := rosterCheck .claim f.lane c.seq c.key scanned
        (∀ old new, a.counts = some (old, new) →
          (a.held = true ∧ c.basis < old ∧ s.station.state ≠ .configuring →
            exec .peerClaim s = .next (refresh (scheduleCorrection f.lane c.seq c.key new judged))) ∧
          (¬ (a.held = true ∧ c.basis < old ∧ s.station.state ≠ .configuring) →
            exec .peerClaim s = .next (refresh judged))))) ∧
    (f.kind = .correction →
      let c := readCorrection f.payload
      (∀ k, applyCorrection s.rules s.tally.table c = .error k →
        exec .peerCorrection s = .next (refresh (memoryFault k (s.freed f)))) ∧
      (∀ a, applyCorrection s.rules s.tally.table c = .ok a →
        let scanned :=
          scanApplied c.key f.lane false a.counts { s.freed f with tally := { s.tally with table := a.table } }
        let judged := rosterCheck .correction f.lane c.seq c.key scanned
        let withdrawn (p : Correction) : Bool :=
          decide (p.claimLane.toNat = c.claimLane.toNat ∧ p.claimSeq = c.claimSeq ∧ p.stage ≠ .sending ∧ p.value ≤ c.value)
        let settling (it : Item) : Prop := it.stage = .settling ∧ it.claimSeq = some c.claimSeq
        ∃ taken : State,
          exec .peerCorrection s = .next (refresh { taken with
            claim := { taken.claim with corrections := s.claim.corrections.filter fun p => !withdrawn p }
            access := { s.access with queue := s.access.queue.filter fun e =>
              !(s.claim.corrections.any fun p => withdrawn p && e.owner == .correction p.claimLane p.claimSeq p.number) } }) ∧
          (c.claimLane.toNat ≠ s.station.lane.toNat → taken = judged) ∧
          (c.claimLane.toNat = s.station.lane.toNat → (∀ it ∈ s.arrival.items, ¬ settling it) →
            taken = occur .lateCorrection
              { condition := .lateCorrection, source := .line f.lane
                title := some { chars := c.key.digits.map charOfDigit, part := c.key.part }, value := some c.value }
              judged) ∧
          (∀ (before : List Item) (it : Item) (behind : List Item) (n : Nat),
            c.claimLane.toNat = s.station.lane.toNat → s.arrival.items = before ++ it :: behind →
            (∀ x ∈ before ++ behind, x.tag ≠ it.tag ∧ ¬ settling x) → settling it → it.ordinal = some n →
            taken = { judged with arrival := { judged.arrival with items := before ++
              { it with ordinal := some (max n c.value), corrected := it.corrected || decide (n < c.value) } :: behind }
              })))

/-- R14, R63, R75, R93, R97: the other peer frames. An ANSWER is merged and scanned, and withdraws a pending answer to the
same inquirer for the same title, not yet SENDING, unless the entry's count stays above it. An INQUIRY touches the entry,
and is answered where it is held with a count of 1 or more, in JOINING, RUN and PAUSED, unless an answer to it is
pending; with 4 pending TRANSMIT BACKLOG is recorded. A GREETING makes the lane's record PRESENT with last sequence 0 and
the role carried, and records PEER RESTART. A parity error of the entry an ANSWER or INQUIRY reads halts the station instead
(R3), the frame leaving its store (log 14, the model's inference). A frame with this station's own lane is not applied: DUPLICATE LANE is
recorded and the station is HALTED. -/
def Obligations.OtherPeerFramesHandled : Prop :=
  ∀ (s : State) (f : StoredFrame), Takes false f s →
    (f.lane = s.station.lane →
      exec .duplicateLane s = .next (refresh (haltOccurrence .duplicateLane
        { condition := .duplicateLane, source := .line s.station.lane, title := none, value := some f.kind.code }
        (s.freed f)))) ∧
    (f.lane ≠ s.station.lane → f.kind = .greeting →
      let x : LaneRecord :=
        { present := true, lastSeq := 0, role := if byteAt f.payload 1 = 1 then .observer else .lane }
      exec .peerGreeting s = .next (refresh (occur .peerRestart
        { condition := .peerRestart, source := .line f.lane, title := none, value := some 1 }
        { s.freed f with claim := { s.claim with roster := s.claim.roster.set (f.lane.toNat - 1) x } }))) ∧
    (f.lane ≠ s.station.lane → f.kind = .inquiry → ∀ table found,
      touchEntry s.tally.table (readInquiry f.payload) = .ok (table, found) →
      let k := readInquiry f.payload
      let touched : State := { s.freed f with tally := { s.tally with table := table } }
      let answers := s.station.state ≠ .configuring ∧ (∃ e, found = some e ∧ 1 ≤ e.count) ∧
        ∀ x ∈ s.inquiry.answers, ¬ (x.inquirer = f.lane ∧ x.key = k)
      (∀ e, findEntry s.tally.table k = some e → table = e :: s.tally.table.filter (fun x => x.key ≠ k) ∧ found = some e) ∧
      (findEntry s.tally.table k = none → table = s.tally.table ∧ found = none) ∧
      (¬ answers → exec .peerInquiry s = .next (refresh touched)) ∧
      (answers → s.inquiry.answers.length < 4 →
        exec .peerInquiry s = .next (refresh { touched with inquiry := { s.inquiry with answers := s.inquiry.answers ++
          [{ inquirer := f.lane, key := k, stage := .holding, holdOff := s.station.lane.toNat * 6000 }] } })) ∧
      (answers → 4 ≤ s.inquiry.answers.length →
        exec .peerInquiry s = .next (refresh (occur .transmitBacklog
          { condition := .transmitBacklog, source := .line f.lane
            title := some { chars := k.digits.map charOfDigit, part := k.part }, value := some 5 } touched)))) ∧
    (∀ e, f.lane ≠ s.station.lane → e.parityOk = false →
      (f.kind = .inquiry → findEntry s.tally.table (readInquiry f.payload) = some e →
        exec .peerInquiry s = .next (refresh (memoryFault e.key (s.freed f)))) ∧
      (f.kind = .answer → findEntry s.tally.table (readAnswer f.payload).key = some e →
        exec .peerAnswer s = .next (refresh (memoryFault e.key (s.freed f))))) ∧
    (f.lane ≠ s.station.lane → f.kind = .answer → ∀ a,
      let x := readAnswer f.payload
      mergeAnswer s.tally.table x = .ok a →
      let merged := scanApplied x.key f.lane false a.counts { s.freed f with tally := { s.tally with table := a.table } }
      let withdrawn (p : Answer) : Prop := p.inquirer.toNat = x.inquirer.toNat ∧ p.key = x.key ∧ p.stage ≠ .sending ∧
        ∀ e, findEntry a.table x.key = some e → e.count ≤ x.count
      ∃ t, exec .peerAnswer s = .next (refresh t) ∧
        t = { merged with inquiry := t.inquiry, access := t.access } ∧
        t.inquiry = { s.inquiry with answers := t.inquiry.answers } ∧
        (∀ p, p ∈ t.inquiry.answers ↔ p ∈ s.inquiry.answers ∧ ¬ withdrawn p) ∧
        t.access = { merged.access with queue := t.access.queue } ∧
        (∀ e, e ∈ t.access.queue ↔ e ∈ merged.access.queue ∧
          ∀ p ∈ s.inquiry.answers, withdrawn p → e.owner ≠ .answer p.inquirer p.key))

/-- R5, R12, R40, R47, R66, R69, R72, R77, R87, R98, R100: own frames in line order. The CLAIM is applied and scanned, and
its result is the ordinal of the undecided item with its sequence, which settles for the configured window, or with deadline
0 is decided HOLD DEADLINE, counted, its scans having reported before it (log 35, the model's choice). The CORRECTION and the
ANSWER are applied and the pending record that was sent, in SENDING and for the CORRECTION under its sequence (log 32), is
removed, and no other. The INQUIRY opens the window of an inquiry in SENDING and touches no entry (log 31, the model's
inference). The GREETING ends JOINING in RUN, restarts the own numbering, makes the own roster record PRESENT with the
strapped role, and queues every HELD correction behind the others in the order held. A parity error of the entry that a
CLAIM, CORRECTION or ANSWER reads halts the station instead (R3), the frame leaving its store (log 14). -/
def Obligations.OwnFramesHandled : Prop :=
  ∀ (s : State) (f : StoredFrame), Takes true f s →
    (f.kind = .claim → ∀ a,
      let c := readClaim f.payload
      applyClaim s.rules s.tally.table f.lane c = .ok a →
      let scanned := scanApplied c.key f.lane true a.counts { s.freed f with tally := { s.tally with table := a.table } }
      let served (it : Item) : Prop := it.stage ≠ .decided ∧ it.claimSeq = some c.seq
      ((∀ it ∈ s.arrival.items, ¬ served it) → exec .ownClaimApplied s = .next (refresh scanned)) ∧
      (∀ (before : List Item) (it : Item) (behind : List Item) (old n : Nat), a.counts = some (old, n) →
        s.arrival.items = before ++ it :: behind → (∀ x ∈ before ++ behind, x.tag ≠ it.tag ∧ ¬ served x) → served it →
        let numbered (x : Item) : State :=
          { scanned with arrival := { scanned.arrival with items := before ++ x :: behind } }
        (0 < it.deadline → exec .ownClaimApplied s = .next (refresh (numbered
          { it with ordinal := some n, stage := .settling, settle := some (s.rules.settleWindow * 24000) }))) ∧
        (it.deadline = 0 → exec .ownClaimApplied s = .next (refresh
          (decideItem it.tag .hold .deadline (numbered { it with ordinal := some n })))))) ∧
    (f.kind = .correction → ∀ a,
      let c := readCorrection f.payload
      applyCorrection s.rules s.tally.table c = .ok a →
      let scanned := scanApplied c.key f.lane false a.counts { s.freed f with tally := { s.tally with table := a.table } }
      exec .ownCorrectionApplied s = .next (refresh { scanned with claim := { s.claim with
        corrections := s.claim.corrections.filter fun p => ¬ (p.claimLane.toNat = c.claimLane.toNat ∧
          p.claimSeq = c.claimSeq ∧ p.stage = .sending ∧ p.drawn = some c.seq) } })) ∧
    (f.kind = .answer → ∀ a,
      let x := readAnswer f.payload
      mergeAnswer s.tally.table x = .ok a →
      let scanned := scanApplied x.key f.lane false a.counts { s.freed f with tally := { s.tally with table := a.table } }
      exec .ownAnswerMerged s = .next (refresh { scanned with inquiry := { s.inquiry with
        answers := s.inquiry.answers.filter fun p =>
          ¬ (p.inquirer.toNat = x.inquirer.toNat ∧ p.key = x.key ∧ p.stage = .sending) } })) ∧
    (∀ k,
      let halts (c : Instr) : Prop := exec c s = .next (refresh (memoryFault k (s.freed f)))
      (f.kind = .claim → applyClaim s.rules s.tally.table f.lane (readClaim f.payload) = .error k →
        halts .ownClaimApplied) ∧
      (f.kind = .correction → applyCorrection s.rules s.tally.table (readCorrection f.payload) = .error k →
        halts .ownCorrectionApplied) ∧
      (f.kind = .answer → mergeAnswer s.tally.table (readAnswer f.payload) = .error k → halts .ownAnswerMerged)) ∧
    (f.kind = .inquiry →
      let k := readInquiry f.payload
      exec .ownInquiryHandled s = .next (refresh { s.freed f with inquiry := { s.inquiry with
        inquiries := s.inquiry.inquiries.map fun q => if q.key = k ∧ q.stage = .sending then
          { q with stage := .window, window := some (s.rules.inquiryWindow * 24000) } else q } })) ∧
    (f.kind = .greeting →
      let x : LaneRecord :=
        { present := true, lastSeq := 0, role := if s.station.observer then .observer else .lane }
      let held := s.claim.corrections.filter fun c => c.stage = .held
      exec .ownGreetingHandled s = .next (refresh { s.freed f with
        station := { s.station with state := if s.station.state = .joining then .run else s.station.state }
        claim := { s.claim with
          ownSeq := 0
          roster := s.claim.roster.set (s.station.lane.toNat - 1) x
          corrections := s.claim.corrections.map fun c => if c.stage = .held then { c with stage := .queued } else c }
        access := { s.access with
          queue := s.access.queue ++ held.mapIdx fun i c =>
            { owner := .correction c.claimLane c.claimSeq c.number, place := s.access.placements + i }
          placements := s.access.placements + held.length } }))

/-! ## Line access and timers -/

/-- R3, R37, R38, R56, R58, R70, R86, R96, R138, R140, R141, R143, R144: an attempt begins at a bit time boundary when the
unit is DEFERRING, the own-frame holder is empty, the line is idle and the idle time that the command carries (log 4, the
model's choice) covers the candidate's deferral, and not otherwise. The candidate is the first WAITING entry,
CORRECTION before ANSWER before GREETING before CLAIM and INQUIRY, and by place among equals, and with none waiting no attempt begins. Its owner builds the frame: `sends` says that the frame is handed to the
transmitter, its entry alone IN FLIGHT, the yield flag cleared, and the line driven from that boundary by the bits of the
frame; a GREETING's role byte is 0 for the lane role by the model's choice (log 37), and of two corrections pending for one
claim the attempt is that of the record whose number the entry names, its choice as well (log 32). A CLAIM draws its sequence
at its first build alone, after the mass check. A refused build takes the entry out, and `refused` says that the next
candidate is considered at the same boundary: of a CLAIM with MISMATCH, whose item is held; of an ANSWER whose entry is
absent or at count 0, which is dropped; of a CLAIM or ANSWER that meets a parity error, which halts the station. -/
def Obligations.AttemptStarts : Prop :=
  ∀ (s : State) (n : Nat),
    let order (o : Owner) : Nat := match o with
      | .correction _ _ _ => 1
      | .answer _ _ => 2
      | .greeting => 3
      | .claim _ | .inquiry _ | .closedInquiry => 4
    (∀ e, s.access.candidate = some e → e ∈ s.access.queue ∧ e.inFlight = false ∧
      ∀ x ∈ s.access.queue, x.inFlight = false →
        ¬ (order x.owner < order e.owner ∨ order x.owner = order e.owner ∧ x.place < e.place)) ∧
    (s.access.candidate = none ↔ ∀ x ∈ s.access.queue, x.inFlight = true) ∧
    (s.access.candidate = none → exec (.attemptStart n) s = .next s) ∧
    (∀ e, s.access.candidate = some e →
      let begins (t : State) : Prop := ∃ x, t.access.candidate = some x ∧ t.station.powerGood = true ∧
        t.station.state.transmits = true ∧ t.access.unit = .deferring ∧ t.line.holder = none ∧
        t.line.receiver = .idle ∧ deferral t.station.lane t.access.yield x.attempts ≤ n
      let sends (kind : FrameKind) (payload : List Byte) (t : State) : Prop :=
        ∀ before behind, s.access.queue = before ++ e :: behind → e ∉ before →
          exec (.attemptStart n) s = .next (refresh { t with access := { s.access with
            queue := before ++ { e with inFlight := true } :: behind
            yield := false, unit := .sending, flight := some { kind := kind, payload := payload }, readback := 0
            readbackFault := false, wave := frameBits kind s.station.lane payload, txElapsed := 0 } })
      let refused (t : State) : Prop :=
        (begins t → exec (.attemptStart n) s = exec (.attemptStart n) t) ∧
        (¬ begins t → exec (.attemptStart n) s = .next (refresh t))
      let gone : State := { s with access := { s.access with queue := s.access.queue.filter fun x => x.owner ≠ e.owner } }
      (¬ begins s → exec (.attemptStart n) s = .next s) ∧
      (begins s → e.owner = .greeting → sends .greeting [0, if s.station.observer then 1 else 0] s) ∧
      (∀ k, begins s → e.owner = .inquiry k → sends .inquiry (inquiryPayload k)
        { s with inquiry := { s.inquiry with inquiries := s.inquiry.inquiries.map fun q =>
            if q.key = k then { q with stage := .sending } else q } }) ∧
      (∀ (l : Lane) (k : TitleKey), begins s → e.owner = .answer l k →
        let dropped (t : State) : State := { t with inquiry := { s.inquiry with
          answers := s.inquiry.answers.filter fun a => ¬ (a.inquirer = l ∧ a.key = k) } }
        (∀ x : Entry, findEntry s.tally.table k = some x → x.parityOk = true →
          let touched (t : State) : State :=
            { t with tally := { s.tally with table := x :: s.tally.table.filter fun y => y.key ≠ k } }
          (1 ≤ x.count → sends .answer (answerPayload l k x.count x.refMass)
            { touched s with
              inquiry := { s.inquiry with answers := s.inquiry.answers.map fun a =>
                if a.inquirer = l ∧ a.key = k then { a with stage := .sending } else a } }) ∧
          (x.count = 0 → refused (dropped (touched gone)))) ∧
        (findEntry s.tally.table k = none → refused (dropped gone)) ∧
        (∀ x : Entry, findEntry s.tally.table k = some x → x.parityOk = false →
          exec (.attemptStart n) s = .next (refresh (memoryFault x.key gone)))) ∧
      (∀ (l : Lane) (q : Byte) (m : Nat) (c : Correction), begins s → e.owner = .correction l q m →
        s.claim.corrections.find? (fun c => c.claimLane == l && c.claimSeq == q && c.number == m) = some c →
        let own := c.drawn.getD (s.claim.ownSeq + 1)
        sends .correction (correctionPayload own l q c.key c.value)
          { s with claim := { s.claim with
              ownSeq := if c.drawn = none then s.claim.ownSeq + 1 else s.claim.ownSeq
              corrections := s.claim.corrections.map fun c => if c.claimLane = l ∧ c.claimSeq = q ∧ c.number = m then
                { c with stage := .sending, drawn := some own } else c } }) ∧
      (∀ (tag : Byte) (it : Item) (x : Entry), begins s → e.owner = .claim tag → s.arrival.find tag = some it →
        findEntry s.tally.table it.key = some x →
        (x.parityOk = false → exec (.attemptStart n) s = .next (refresh (memoryFault x.key gone))) ∧
        (x.parityOk = true →
          let touched (t : State) : State :=
            { t with tally := { s.tally with table := x :: s.tally.table.filter fun y => y.key ≠ it.key } }
          let check := massCheck (s.rules.classAt it.cls) x.count x.refMass it.mass
          let mass : Option Nat := match it.mass with | .usable g => some g | .clamped | .absent => none
          let change (f : Item → Item) (t : State) : State :=
            { t with arrival := { t.arrival with items := t.arrival.items.map fun y => if y.tag = tag then f y else y } }
          (∀ q, it.claimSeq = some q → sends .claim (claimPayload q it.key x.count mass)
            (change (fun y => { y with stage := .onLine }) (touched s))) ∧
          (it.claimSeq = none → check ≠ .mismatch → sends .claim (claimPayload (s.claim.ownSeq + 1) it.key x.count mass)
            (change (fun y => { y with massCheck := check, stage := .onLine, claimSeq := some (s.claim.ownSeq + 1) })
              { touched s with claim := { s.claim with ownSeq := s.claim.ownSeq + 1 } })) ∧
          (it.claimSeq = none → check = .mismatch → refused
            (decideItem tag .hold .mass (change (fun y => { y with massCheck := check }) (touched gone)))))))

/-- R40, R59, R118, R123, R124, R134, R143, R145, R146: while this station sends, the line stands at the level of the bit of
the frame at the transmitter's time. A character read back is compared with the character sent, data, mark and noise, and a
framing error or break collides; nothing of it reaches the assembler. Completion puts the frame into the own-frame holder
with its place in line order, takes its entry from the queue, sets the yield flag, and completes a CLAIM's item on line; that
it does so however many characters have been read back clean, and leaves the line idle at 0, and that a collision may be
commanded for any cause, is the model's choice (logs 4 and 16). A collision commands the jam and raises the attempt count:
the character in progress is finished, at its first boundary too, and then the line is low for 14 bit times and released for
2. That after the last character no rest is left is the model's inference (log 19). At rest the line is released. -/
def Obligations.OwnFrameEnds : Prop :=
  ∀ (s : State) (fl : Flight), s.station.powerGood = true → s.access.unit = .sending → s.access.flight = some fl →
    (∀ (data : Byte) (mark noisy : Bool), s.station.state.receives = true →
      s.line.receiver = .idle ∨ s.line.receiver = .inCharacter →
      let sent := (frameBytes fl.kind s.station.lane fl.payload)[s.access.readback]?
      let clean := sent = some data ∧ (mark = true ↔ s.access.readback = 0) ∧ noisy = false
      ∃ fault, (fault = true ↔ s.access.readbackFault = true ∨ ¬ clean) ∧
        exec (if mark then .headerReceived data noisy else .payloadCharacterReceived data noisy) s = .next
          { s with
            line := { s.line with receiver := .idle, idle := 0 }
            access := { s.access with readback := s.access.readback + 1, readbackFault := fault } }) ∧
    (s.station.state.receives = true → s.line.receiver = .idle ∨ s.line.receiver = .inCharacter →
      exec .dockFramingError s = .next
        { s with line := { s.line with receiver := .idle, idle := 0 }, access := { s.access with readbackFault := true } } ∧
      exec .lineBreak s = .next
        { s with line := { s.line with receiver := .inBreak, idle := 0 }, access := { s.access with readbackFault := true } }) ∧
    (s.access.readbackFault = false → s.line.holder = none →
      let done : State :=
        { s with
          line := { s.line with
            holder := some { kind := fl.kind, lane := s.station.lane, payload := fl.payload, order := s.line.nextOrder }
            nextOrder := s.line.nextOrder + 1, receiver := .idle, idle := 0 }
          access := { s.access with
            queue := s.access.queue.filter fun e => e.inFlight = false
            yield := true, unit := .quiet, flight := none, readback := 0, wave := [], txElapsed := 0 } }
      (∀ e tag, s.access.inFlightEntry = some e → e.owner = .claim tag →
        exec .ownFrameCompletion s = .next (refresh { done with arrival := { s.arrival with
          items := s.arrival.items.map fun it => if it.tag = tag then { it with completed := true } else it } })) ∧
      ((∀ e tag, s.access.inFlightEntry = some e → e.owner ≠ .claim tag) →
        exec .ownFrameCompletion s = .next (refresh done))) ∧
    (let bit := bitPeriods s.station.rate
      let bits := frameBits fl.kind s.station.lane fl.payload
      fl.payload.length = fl.kind.payloadLength → s.access.wave = bits →
      let character := s.access.txElapsed / (11 * bit)
      let atTime (n : Nat) (t : State) : State := { t with access := { t.access with txElapsed := n } }
      (∀ (i j n : Nat) (d : Byte), (frameBytes fl.kind s.station.lane fl.payload)[i]? = some d → j < 11 → n < bit →
        some (dockLevel (atTime ((11 * i + j) * bit + n) s)) = (characterBits d (i == 0))[j]?) ∧
      ∃ t, exec .collision s = .next t ∧
        t = { s with access := { s.access with
          unit := .jamming, jamLeft := t.access.jamLeft, wave := t.access.wave
          queue := s.access.queue.map fun e => if e.inFlight then { e with attempts := e.attempts + 1 } else e } } ∧
        (character < fl.kind.frameLength →
          let ends := 11 * (character + 1)
          t.access.jamLeft = (ends + 16) * bit - s.access.txElapsed ∧
          (∀ n, n < ends * bit → dockLevel (atTime n t) = dockLevel (atTime n s)) ∧
          (∀ n, ends * bit ≤ n → (dockLevel (atTime n t) = false ↔ n < (ends + 14) * bit))) ∧
        (s.access.txElapsed = 11 * fl.kind.frameLength * bit → t.access.jamLeft = 16 * bit)) ∧
    (∀ t : State, t.access.unit = .quiet ∨ t.access.unit = .deferring → dockLevel t = true)

/-- R39, R47, R78, R86, R90, R98, R146 to R148: what the end of a jam does with the entry in flight. With the no-retry mark,
or for a CLAIM whose item's deadline has passed, it leaves, and the item is held; at 16 collisions the frame is abandoned
with LINE CONTENTION and its owner acts by its kind; otherwise it waits again, an item or an inquiry back in QUEUED and an
answer or a correction still SENDING. An abandoned correction is the record whose number the entry names (log 32, the model's
choice). After an abort nothing is left to deal with (R150). That a CLAIM without the mark is dealt with so at deadline 0 is
the model's inference (log 23), and that the jam's end acts when it is commanded its choice (log 4). -/
def Obligations.JamEnds : Prop :=
  ∀ s : State, s.station.powerGood = true → s.access.unit = .jamming →
    let ended : State := { s with access := { s.access with
      unit := .quiet, flight := none, readback := 0, readbackFault := false, wave := [], txElapsed := 0, jamLeft := 0 } }
    let gone : State := { ended with access := { ended.access with
      queue := s.access.queue.filter fun e => e.inFlight = false } }
    let contended (kind : FrameKind) (k : Option TitleKey) (t : State) : State := occur .lineContention
      { condition := .lineContention, source := .station
        title := k.map fun k => { chars := k.digits.map charOfDigit, part := k.part }, value := some kind.code } t
    let back (o : Owner) : State := { ended with access := { ended.access with
      queue := s.access.queue.map fun e => if e.owner = o then { e with inFlight := false } else e } }
    (s.access.inFlightEntry = none → exec .jamEnd s = .next (refresh ended)) ∧
    (∀ e, s.access.inFlightEntry = some e →
      (∀ tag it, e.owner = .claim tag → s.arrival.find tag = some it →
        (e.noRetry = true ∨ it.deadline = 0 → exec .jamEnd s = .next (refresh (decideItem tag .hold .deadline gone))) ∧
        (e.noRetry = false → 0 < it.deadline → 16 ≤ e.attempts →
          exec .jamEnd s = .next (refresh (decideItem tag .hold .contention gone))) ∧
        (e.noRetry = false → 0 < it.deadline → e.attempts < 16 →
          exec .jamEnd s = .next (refresh { back e.owner with arrival := { s.arrival with
            items := s.arrival.items.map fun x => if x.tag = tag then { x with stage := .queued } else x } }))) ∧
      (e.noRetry = true → (∀ tag, e.owner ≠ .claim tag) → exec .jamEnd s = .next (refresh gone)) ∧
      (e.noRetry = false → e.attempts < 16 →
        (∀ k, e.owner = .inquiry k → exec .jamEnd s = .next (refresh { back e.owner with inquiry := { s.inquiry with
          inquiries := s.inquiry.inquiries.map fun q => if q.key = k then { q with stage := .queued } else q } })) ∧
        ((∀ tag, e.owner ≠ .claim tag) → (∀ k, e.owner ≠ .inquiry k) →
          exec .jamEnd s = .next (refresh (back e.owner)))) ∧
      (e.noRetry = false → 16 ≤ e.attempts →
        (e.owner = .greeting → exec .jamEnd s = .next (refresh (contended .greeting none
          { gone with claim := { s.claim with greetingTimer := some 2400000 } }))) ∧
        (∀ l k, e.owner = .answer l k → exec .jamEnd s = .next (refresh (contended .answer (some k)
          { gone with inquiry := { s.inquiry with
              answers := s.inquiry.answers.filter fun x => ¬ (x.inquirer = l ∧ x.key = k) } }))) ∧
        (∀ (l : Lane) (q : Byte) (m : Nat) (c : Correction), e.owner = .correction l q m →
          s.claim.corrections.find? (fun c => c.claimLane == l && c.claimSeq == q && c.number == m) = some c →
          exec .jamEnd s = .next (refresh (contended .correction (some c.key)
            { gone with claim := { s.claim with corrections := s.claim.corrections.filter fun x =>
                ¬ (x.claimLane = l ∧ x.claimSeq = q ∧ x.number = m) } }))) ∧
        (∀ k, e.owner = .inquiry k →
          exec .jamEnd s = .next (refresh (closeToQueued k (contended .inquiry (some k) gone))))))

/-- R18, R35, R69, R78, R89, R95, R139: the expiries of an inquiry window, of the hold-offs and of the greeting re-queue
timer. The window's entry becomes CERTAIN and is touched, the inquiry closes, and every item still waiting is QUEUED with
its CLAIM queued in the waiting order. An ANSWER or CORRECTION goes behind all others of its kind; a CORRECTION is HELD in JOINING, behind those held before it.
Of two pending corrections of one claim the hold-off of the one scheduled first ends, and the other's record and entry stay
as they are (log 32). That the expiries act when they are commanded is the model's choice (log 4). -/
def Obligations.TimersExpire : Prop :=
  ∀ s : State, s.station.powerGood = true → s.station.state.transmits = true →
    let lastPlace : Nat := s.access.placements
    (∀ (k : TitleKey) (q : Inquiry) (e : Entry) (time : Nat), s.inquiry.find k = some q → q.stage = .window →
      q.window = some time → findEntry s.tally.table k = some e →
      ∃ t, exec (.inquiryWindowExpiry k) s = .next t ∧
        t.tally = { s.tally with table := { e with certainty := .certain } :: s.tally.table.filter fun x => x.key ≠ k } ∧
        t.inquiry = { s.inquiry with inquiries := s.inquiry.inquiries.filter fun x => x.key ≠ k } ∧
        t.arrival = { s.arrival with items := s.arrival.items.map fun it =>
          if it.tag ∈ q.waiting then { it with stage := .queued } else it } ∧
        t.access.queue = s.access.queue ++ q.waiting.map fun tag =>
          { owner := .claim tag, place := ((s.arrival.find tag).map Item.accepted).getD 0 }) ∧
    (∀ (l : Lane) (k : TitleKey), (∃ x ∈ s.inquiry.answers, x.inquirer = l ∧ x.key = k ∧ x.stage = .holding) →
      exec (.answerHoldOffExpiry l k) s = .next (refresh
        { s with
          inquiry := { s.inquiry with answers := s.inquiry.answers.map fun x =>
            if x.inquirer = l ∧ x.key = k then { x with stage := .queued, holdOff := 0 } else x }
          access := { s.access with
            queue := s.access.queue ++ [{ owner := .answer l k, place := lastPlace }], placements := lastPlace + 1 } })) ∧
    (∀ (l : Lane) (q : Byte) (before : List Correction) (c : Correction) (behind : List Correction),
      s.claim.corrections = before ++ c :: behind → c.claimLane = l → c.claimSeq = q → c.stage = .holding →
      (∀ x ∈ before, ¬ (x.claimLane = l ∧ x.claimSeq = q ∧ x.stage = .holding)) →
      (s.station.state = .joining → exec (.correctionHoldOffExpiry l q) s = .next
        { s with claim := { s.claim with
            corrections := before ++ behind ++ [{ c with stage := .held, holdOff := 0 }] } }) ∧
      (s.station.state ≠ .joining → exec (.correctionHoldOffExpiry l q) s = .next (refresh
        { s with
          claim := { s.claim with corrections := before ++ { c with stage := .queued, holdOff := 0 } :: behind }
          access := { s.access with
            queue := s.access.queue ++ [{ owner := .correction l q c.number, place := lastPlace }]
            placements := lastPlace + 1 } }))) ∧
    (∀ time, s.station.state = .joining → s.claim.greetingTimer = some time →
      exec .greetingRequeueExpiry s = .next (refresh
        { s with
          claim := { s.claim with greetingTimer := none }
          access := { s.access with queue := s.access.queue ++ [{ owner := .greeting, place := 0 }] } }))

/-! ## Invariants -/

/-- The state after reset is the station right after a rising edge of POWER GOOD with lane 1, rate 0 and the lane role
strapped: the straps are the model's choice (log 3). Every invariant below holds there, and after every rising edge. -/
def Obligations.ResetIsPowerUpAndSound : Prop :=
  exec (.powerGoodRise 1 0 false) State.reset = .next State.reset ∧
  ∀ (s t : State) (l : Lane) (q : BitVec 2) (o : Bool), t = State.reset ∨ exec (.powerGoodRise l q o) s = .next t →
    t.pinsFollow ∧ t.cond.sound ∧ t.tally.sound ∧ t.arrival.sound ∧ t.withinLimits ∧ t.banksWhole ∧ t.rules.inRange ∧
      t.transmitsInTurn

/-- R171, R175: every step keeps both pins at the levels the rules give, whatever the command. With automatic end on and a
condition still in service ATTN follows R171, where R174 has other words (log 36, the model's choice). -/
def Obligations.PinsFollowAtEveryStep : Prop :=
  ∀ s t : State, s.pinsFollow → step s = .next t → t.pinsFollow

/-- 9.1, R165, R168: every step keeps the four sets disjoint as 9.1 says, and every detail record named after its own
condition and filled while its condition is in any set. -/
def Obligations.ConditionsStaySound : Prop :=
  ∀ s t : State, s.cond.sound → step s = .next t → t.cond.sound

/-- R1, R10, R11: every step keeps at most 512 entries, one per title key, with counts to 63, and a count of 0 only while
the entry is pinned. -/
def Obligations.TallyStaysSound : Prop :=
  ∀ s t : State, s.tally.sound → step s = .next t → t.tally.sound

/-- R27, R29: every step keeps at most 8 records with consecutive tags, the last the one before the counter's value; so no
two records in the queue carry the same tag. -/
def Obligations.ArrivalStaysSound : Prop :=
  (∀ s t : State, s.arrival.sound → step s = .next t → t.arrival.sound) ∧
  (∀ s : State, s.arrival.sound → (s.arrival.items.map Item.tag).Nodup)

/-- R68, R94, R101, R103, R132, R153, R192, R194: every step keeps seven limits, the 4 requests of the input buffer, the 4
replies and 8 DISPOSITION records of the output stream with a place for the reply of a CLEAR WORK in handling, the 4 pending
corrections, the 4 pending answers and the 4 unconfirmed discards; every fixed bank at its size; and every configured value
in its range. R138, R141, R150: every step keeps at most one entry of the transmit queue IN FLIGHT, none without an attempt
or its jam in progress, and the queue and the pending corrections empty and no frame in transmission outside JOINING, RUN and
PAUSED. The 18 entries of the transmit queue and the 8 own inquiries are not among these limits. -/
def Obligations.LimitsKept : Prop :=
  (∀ s t : State, s.withinLimits ∧ s.banksWhole ∧ s.rules.inRange → step s = .next t →
    t.withinLimits ∧ t.banksWhole ∧ t.rules.inRange) ∧
  (∀ s t : State, s.transmitsInTurn → step s = .next t → t.transmitsInTurn)

/-! ## Rules of the whole machine -/

/-- 10.2, R181, R183 to R187: the only commands that change the station state, each with the states it leads from and to.
HALTED is entered from a receiving state alone, with a halt-class condition recorded, and left by a reset alone; the straps
are sampled at a rising edge of POWER GOOD alone. R6, R25, R80, R136, R169, R186: in HALTED, with the queue empty and no
attempt in progress as LimitsKept has it, no command but the two resets handles a frame, lets a timer of an item, inquiry,
answer, correction or greeting expire, counts a deadline, takes a character of the dock line or begins a transmission:
tally, claims, inquiries and stored frames stay, and items leave by release alone. -/
def Obligations.StationStateChanges : Prop :=
  ∀ (c : Instr) (s t : State), exec c s = .next t → (∀ l q o, c ≠ .powerGoodRise l q o) →
    (t.station.lane = s.station.lane ∧ t.station.rate = s.station.rate ∧ t.station.observer = s.station.observer) ∧
    (t.station.powerGood = s.station.powerGood ∨ c = .powerGoodFall) ∧
    (t.station.state ≠ s.station.state →
      (c = .laneReset ∧ s.station.state ≠ .strapFault ∧ t.station.state = .configuring) ∨
      (c = .commence ∧ s.station.state = .configuring ∧ t.station.state = .joining) ∨
      (c = .ownGreetingHandled ∧ s.station.state = .joining ∧ t.station.state = .run) ∨
      (c = .pause ∧ s.station.state = .run ∧ t.station.state = .paused) ∨
      (c = .resume ∧ s.station.state = .paused ∧ t.station.state = .run) ∨
      (s.station.state.receives = true ∧ t.station.state = .halted ∧
        ((c = .duplicateLane ∧ has t.cond.recorded .duplicateLane = true) ∨
          (has t.cond.recorded .tallyMemoryFault = true ∧
            (c = .present ∨ c = .readEntry ∨ (∃ n, c = .attemptStart n) ∨ c = .peerClaim ∨ c = .peerCorrection ∨
              c = .peerAnswer ∨ c = .peerInquiry ∨ c = .ownClaimApplied ∨ c = .ownCorrectionApplied ∨
              c = .ownAnswerMerged))))) ∧
    (s.station.state = .halted → s.access.queue = [] → s.access.unit ≠ .sending → c ≠ .laneReset →
      t.station.state = .halted ∧ t.tally = s.tally ∧ t.claim = s.claim ∧ t.inquiry = s.inquiry ∧ t.rules = s.rules ∧
        t.watch = s.watch ∧ t.line = { s.line with receiver := t.line.receiver, idle := t.line.idle } ∧
        (s.line.receiver = .stopped → t.line = s.line) ∧ t.access.queue = [] ∧ t.access.unit ≠ .sending ∧
        ∃ released, s.arrival.items = released ++ t.arrival.items)

/-- R101, R102, R153, R178: the rule unit's and the condition unit's configuration change by a CONFIGURE in CONFIGURING and
at POWER GOOD alone; a watch entry by a load or a reset alone, but for its hits, which never fall. -/
def Obligations.ConfigurationFixed : Prop :=
  ∀ (c : Instr) (s t : State), exec c s = .next t → (∀ l q o, c ≠ .powerGoodRise l q o) →
    (t.rules = s.rules ∨ s.station.state = .configuring ∧
      (c = .configureTimes ∨ c = .configureClass ∨ c = .configureRange)) ∧
    (t.cond.mask = s.cond.mask ∨ s.station.state = .configuring ∧ c = .configureMask) ∧
    (t.cond.routing = s.cond.routing ∨ s.station.state = .configuring ∧ c = .configureStopRouting) ∧
    (t.cond.autoEnd = s.cond.autoEnd ∨ s.station.state = .configuring ∧ c = .configureAutomaticEnd) ∧
    (c ≠ .laneReset → c ≠ .loadWatchEntry → t.watch.length = s.watch.length ∧
      ∀ (i : Nat) (w x : WatchEntry), s.watch[i]? = some w → t.watch[i]? = some x →
        x = { w with hits := x.hits } ∧ (w.hits ≤ 255 → w.hits ≤ x.hits))

/-- R11, R17 to R19: while a title stays in the table through a command other than a reset, its count never falls and its
reference mass, once there, is kept. A title is CERTAIN after a command only if it was before, or its own inquiry window
expired; and where the epoch has moved every entry is UNSURE. -/
def Obligations.TallyHistory : Prop :=
  ∀ (c : Instr) (s t : State), exec c s = .next t → (∀ l q o, c ≠ .powerGoodRise l q o) → c ≠ .laneReset →
    s.tally.sound →
    (∀ e ∈ s.tally.table, ∀ x ∈ t.tally.table, x.key = e.key →
      e.count ≤ x.count ∧ (∀ m, e.refMass = some m → x.refMass = some m)) ∧
    (∀ x ∈ t.tally.table, x.certainty = .certain →
      (∃ e ∈ s.tally.table, e.key = x.key ∧ e.certainty = .certain) ∨ c = .inquiryWindowExpiry x.key) ∧
    (t.tally.epoch = s.tally.epoch ∨ ∀ x ∈ t.tally.table, x.certainty = .unsure)

/-- R27, R49, R50: the records leave the queue from the head, each with one DISPOSITION record behind those already on the
output stream, in presentation order: what a command adds to the queue (one record, by PRESENT alone) and what it releases
account for every tag. -/
def Obligations.DispositionsInOrder : Prop :=
  ∀ (c : Instr) (s t : State), exec c s = .next t → (∀ l q o, c ≠ .powerGoodRise l q o) → c ≠ .laneReset →
    c ≠ .outputRecordSent →
    ∃ added released : List Byte,
      s.arrival.items.map Item.tag ++ added = released ++ t.arrival.items.map Item.tag ∧
      (added = [] ∨ c = .present ∧ added = [s.arrival.nextTag]) ∧
      (t.port.output.filter OutRecord.isDisposition).map (fun o => o.payload.head?) =
        (s.port.output.filter OutRecord.isDisposition).map (fun o => o.payload.head?) ++ released.map some
end

