-- ==== Sys2Proof/Laws/State.lean ====
section
/-! SUPPORT. One lemma for each field of the state after each named update. -/

namespace Sys2Proof.Machine

variable (s : State)

/-! ## State.setStation -/

@[simp] theorem State.setStation_station (x : Station) : (s.setStation x).station = x := rfl
@[simp] theorem State.setStation_tally (x : Station) : (s.setStation x).tally = s.tally := rfl
@[simp] theorem State.setStation_arrival (x : Station) : (s.setStation x).arrival = s.arrival := rfl
@[simp] theorem State.setStation_claim (x : Station) : (s.setStation x).claim = s.claim := rfl
@[simp] theorem State.setStation_inquiry (x : Station) : (s.setStation x).inquiry = s.inquiry := rfl
@[simp] theorem State.setStation_rules (x : Station) : (s.setStation x).rules = s.rules := rfl
@[simp] theorem State.setStation_line (x : Station) : (s.setStation x).line = s.line := rfl
@[simp] theorem State.setStation_access (x : Station) : (s.setStation x).access = s.access := rfl
@[simp] theorem State.setStation_watch (x : Station) : (s.setStation x).watch = s.watch := rfl
@[simp] theorem State.setStation_cond (x : Station) : (s.setStation x).cond = s.cond := rfl
@[simp] theorem State.setStation_port (x : Station) : (s.setStation x).port = s.port := rfl
@[simp] theorem State.setStation_clock (x : Station) : (s.setStation x).clock = s.clock := rfl
@[simp] theorem State.setStation_draws (x : Station) : (s.setStation x).draws = s.draws := rfl
@[simp] theorem State.setStation_pending (x : Station) : (s.setStation x).pending = s.pending := rfl
@[simp] theorem State.setStation_self : s.setStation s.station = s := rfl
@[simp] theorem State.setStation_again (x y : Station) : (s.setStation x).setStation y = s.setStation y := rfl

/-! ## State.setTally -/

@[simp] theorem State.setTally_station (x : Tally) : (s.setTally x).station = s.station := rfl
@[simp] theorem State.setTally_tally (x : Tally) : (s.setTally x).tally = x := rfl
@[simp] theorem State.setTally_arrival (x : Tally) : (s.setTally x).arrival = s.arrival := rfl
@[simp] theorem State.setTally_claim (x : Tally) : (s.setTally x).claim = s.claim := rfl
@[simp] theorem State.setTally_inquiry (x : Tally) : (s.setTally x).inquiry = s.inquiry := rfl
@[simp] theorem State.setTally_rules (x : Tally) : (s.setTally x).rules = s.rules := rfl
@[simp] theorem State.setTally_line (x : Tally) : (s.setTally x).line = s.line := rfl
@[simp] theorem State.setTally_access (x : Tally) : (s.setTally x).access = s.access := rfl
@[simp] theorem State.setTally_watch (x : Tally) : (s.setTally x).watch = s.watch := rfl
@[simp] theorem State.setTally_cond (x : Tally) : (s.setTally x).cond = s.cond := rfl
@[simp] theorem State.setTally_port (x : Tally) : (s.setTally x).port = s.port := rfl
@[simp] theorem State.setTally_clock (x : Tally) : (s.setTally x).clock = s.clock := rfl
@[simp] theorem State.setTally_draws (x : Tally) : (s.setTally x).draws = s.draws := rfl
@[simp] theorem State.setTally_pending (x : Tally) : (s.setTally x).pending = s.pending := rfl
@[simp] theorem State.setTally_self : s.setTally s.tally = s := rfl
@[simp] theorem State.setTally_again (x y : Tally) : (s.setTally x).setTally y = s.setTally y := rfl

/-! ## State.setArrival -/

@[simp] theorem State.setArrival_station (x : Arrival) : (s.setArrival x).station = s.station := rfl
@[simp] theorem State.setArrival_tally (x : Arrival) : (s.setArrival x).tally = s.tally := rfl
@[simp] theorem State.setArrival_arrival (x : Arrival) : (s.setArrival x).arrival = x := rfl
@[simp] theorem State.setArrival_claim (x : Arrival) : (s.setArrival x).claim = s.claim := rfl
@[simp] theorem State.setArrival_inquiry (x : Arrival) : (s.setArrival x).inquiry = s.inquiry := rfl
@[simp] theorem State.setArrival_rules (x : Arrival) : (s.setArrival x).rules = s.rules := rfl
@[simp] theorem State.setArrival_line (x : Arrival) : (s.setArrival x).line = s.line := rfl
@[simp] theorem State.setArrival_access (x : Arrival) : (s.setArrival x).access = s.access := rfl
@[simp] theorem State.setArrival_watch (x : Arrival) : (s.setArrival x).watch = s.watch := rfl
@[simp] theorem State.setArrival_cond (x : Arrival) : (s.setArrival x).cond = s.cond := rfl
@[simp] theorem State.setArrival_port (x : Arrival) : (s.setArrival x).port = s.port := rfl
@[simp] theorem State.setArrival_clock (x : Arrival) : (s.setArrival x).clock = s.clock := rfl
@[simp] theorem State.setArrival_draws (x : Arrival) : (s.setArrival x).draws = s.draws := rfl
@[simp] theorem State.setArrival_pending (x : Arrival) : (s.setArrival x).pending = s.pending := rfl
@[simp] theorem State.setArrival_self : s.setArrival s.arrival = s := rfl
@[simp] theorem State.setArrival_again (x y : Arrival) : (s.setArrival x).setArrival y = s.setArrival y := rfl

/-! ## State.setClaim -/

@[simp] theorem State.setClaim_station (x : ClaimSequencer) : (s.setClaim x).station = s.station := rfl
@[simp] theorem State.setClaim_tally (x : ClaimSequencer) : (s.setClaim x).tally = s.tally := rfl
@[simp] theorem State.setClaim_arrival (x : ClaimSequencer) : (s.setClaim x).arrival = s.arrival := rfl
@[simp] theorem State.setClaim_claim (x : ClaimSequencer) : (s.setClaim x).claim = x := rfl
@[simp] theorem State.setClaim_inquiry (x : ClaimSequencer) : (s.setClaim x).inquiry = s.inquiry := rfl
@[simp] theorem State.setClaim_rules (x : ClaimSequencer) : (s.setClaim x).rules = s.rules := rfl
@[simp] theorem State.setClaim_line (x : ClaimSequencer) : (s.setClaim x).line = s.line := rfl
@[simp] theorem State.setClaim_access (x : ClaimSequencer) : (s.setClaim x).access = s.access := rfl
@[simp] theorem State.setClaim_watch (x : ClaimSequencer) : (s.setClaim x).watch = s.watch := rfl
@[simp] theorem State.setClaim_cond (x : ClaimSequencer) : (s.setClaim x).cond = s.cond := rfl
@[simp] theorem State.setClaim_port (x : ClaimSequencer) : (s.setClaim x).port = s.port := rfl
@[simp] theorem State.setClaim_clock (x : ClaimSequencer) : (s.setClaim x).clock = s.clock := rfl
@[simp] theorem State.setClaim_draws (x : ClaimSequencer) : (s.setClaim x).draws = s.draws := rfl
@[simp] theorem State.setClaim_pending (x : ClaimSequencer) : (s.setClaim x).pending = s.pending := rfl
@[simp] theorem State.setClaim_self : s.setClaim s.claim = s := rfl
@[simp] theorem State.setClaim_again (x y : ClaimSequencer) : (s.setClaim x).setClaim y = s.setClaim y := rfl

/-! ## State.setInquiry -/

@[simp] theorem State.setInquiry_station (x : InquiryUnit) : (s.setInquiry x).station = s.station := rfl
@[simp] theorem State.setInquiry_tally (x : InquiryUnit) : (s.setInquiry x).tally = s.tally := rfl
@[simp] theorem State.setInquiry_arrival (x : InquiryUnit) : (s.setInquiry x).arrival = s.arrival := rfl
@[simp] theorem State.setInquiry_claim (x : InquiryUnit) : (s.setInquiry x).claim = s.claim := rfl
@[simp] theorem State.setInquiry_inquiry (x : InquiryUnit) : (s.setInquiry x).inquiry = x := rfl
@[simp] theorem State.setInquiry_rules (x : InquiryUnit) : (s.setInquiry x).rules = s.rules := rfl
@[simp] theorem State.setInquiry_line (x : InquiryUnit) : (s.setInquiry x).line = s.line := rfl
@[simp] theorem State.setInquiry_access (x : InquiryUnit) : (s.setInquiry x).access = s.access := rfl
@[simp] theorem State.setInquiry_watch (x : InquiryUnit) : (s.setInquiry x).watch = s.watch := rfl
@[simp] theorem State.setInquiry_cond (x : InquiryUnit) : (s.setInquiry x).cond = s.cond := rfl
@[simp] theorem State.setInquiry_port (x : InquiryUnit) : (s.setInquiry x).port = s.port := rfl
@[simp] theorem State.setInquiry_clock (x : InquiryUnit) : (s.setInquiry x).clock = s.clock := rfl
@[simp] theorem State.setInquiry_draws (x : InquiryUnit) : (s.setInquiry x).draws = s.draws := rfl
@[simp] theorem State.setInquiry_pending (x : InquiryUnit) : (s.setInquiry x).pending = s.pending := rfl
@[simp] theorem State.setInquiry_self : s.setInquiry s.inquiry = s := rfl
@[simp] theorem State.setInquiry_again (x y : InquiryUnit) : (s.setInquiry x).setInquiry y = s.setInquiry y := rfl

/-! ## State.setRules -/

@[simp] theorem State.setRules_station (x : Rules) : (s.setRules x).station = s.station := rfl
@[simp] theorem State.setRules_tally (x : Rules) : (s.setRules x).tally = s.tally := rfl
@[simp] theorem State.setRules_arrival (x : Rules) : (s.setRules x).arrival = s.arrival := rfl
@[simp] theorem State.setRules_claim (x : Rules) : (s.setRules x).claim = s.claim := rfl
@[simp] theorem State.setRules_inquiry (x : Rules) : (s.setRules x).inquiry = s.inquiry := rfl
@[simp] theorem State.setRules_rules (x : Rules) : (s.setRules x).rules = x := rfl
@[simp] theorem State.setRules_line (x : Rules) : (s.setRules x).line = s.line := rfl
@[simp] theorem State.setRules_access (x : Rules) : (s.setRules x).access = s.access := rfl
@[simp] theorem State.setRules_watch (x : Rules) : (s.setRules x).watch = s.watch := rfl
@[simp] theorem State.setRules_cond (x : Rules) : (s.setRules x).cond = s.cond := rfl
@[simp] theorem State.setRules_port (x : Rules) : (s.setRules x).port = s.port := rfl
@[simp] theorem State.setRules_clock (x : Rules) : (s.setRules x).clock = s.clock := rfl
@[simp] theorem State.setRules_draws (x : Rules) : (s.setRules x).draws = s.draws := rfl
@[simp] theorem State.setRules_pending (x : Rules) : (s.setRules x).pending = s.pending := rfl
@[simp] theorem State.setRules_self : s.setRules s.rules = s := rfl
@[simp] theorem State.setRules_again (x y : Rules) : (s.setRules x).setRules y = s.setRules y := rfl

/-! ## State.setLine -/

@[simp] theorem State.setLine_station (x : Transceiver) : (s.setLine x).station = s.station := rfl
@[simp] theorem State.setLine_tally (x : Transceiver) : (s.setLine x).tally = s.tally := rfl
@[simp] theorem State.setLine_arrival (x : Transceiver) : (s.setLine x).arrival = s.arrival := rfl
@[simp] theorem State.setLine_claim (x : Transceiver) : (s.setLine x).claim = s.claim := rfl
@[simp] theorem State.setLine_inquiry (x : Transceiver) : (s.setLine x).inquiry = s.inquiry := rfl
@[simp] theorem State.setLine_rules (x : Transceiver) : (s.setLine x).rules = s.rules := rfl
@[simp] theorem State.setLine_line (x : Transceiver) : (s.setLine x).line = x := rfl
@[simp] theorem State.setLine_access (x : Transceiver) : (s.setLine x).access = s.access := rfl
@[simp] theorem State.setLine_watch (x : Transceiver) : (s.setLine x).watch = s.watch := rfl
@[simp] theorem State.setLine_cond (x : Transceiver) : (s.setLine x).cond = s.cond := rfl
@[simp] theorem State.setLine_port (x : Transceiver) : (s.setLine x).port = s.port := rfl
@[simp] theorem State.setLine_clock (x : Transceiver) : (s.setLine x).clock = s.clock := rfl
@[simp] theorem State.setLine_draws (x : Transceiver) : (s.setLine x).draws = s.draws := rfl
@[simp] theorem State.setLine_pending (x : Transceiver) : (s.setLine x).pending = s.pending := rfl
@[simp] theorem State.setLine_self : s.setLine s.line = s := rfl
@[simp] theorem State.setLine_again (x y : Transceiver) : (s.setLine x).setLine y = s.setLine y := rfl

/-! ## State.setAccess -/

@[simp] theorem State.setAccess_station (x : LineAccess) : (s.setAccess x).station = s.station := rfl
@[simp] theorem State.setAccess_tally (x : LineAccess) : (s.setAccess x).tally = s.tally := rfl
@[simp] theorem State.setAccess_arrival (x : LineAccess) : (s.setAccess x).arrival = s.arrival := rfl
@[simp] theorem State.setAccess_claim (x : LineAccess) : (s.setAccess x).claim = s.claim := rfl
@[simp] theorem State.setAccess_inquiry (x : LineAccess) : (s.setAccess x).inquiry = s.inquiry := rfl
@[simp] theorem State.setAccess_rules (x : LineAccess) : (s.setAccess x).rules = s.rules := rfl
@[simp] theorem State.setAccess_line (x : LineAccess) : (s.setAccess x).line = s.line := rfl
@[simp] theorem State.setAccess_access (x : LineAccess) : (s.setAccess x).access = x := rfl
@[simp] theorem State.setAccess_watch (x : LineAccess) : (s.setAccess x).watch = s.watch := rfl
@[simp] theorem State.setAccess_cond (x : LineAccess) : (s.setAccess x).cond = s.cond := rfl
@[simp] theorem State.setAccess_port (x : LineAccess) : (s.setAccess x).port = s.port := rfl
@[simp] theorem State.setAccess_clock (x : LineAccess) : (s.setAccess x).clock = s.clock := rfl
@[simp] theorem State.setAccess_draws (x : LineAccess) : (s.setAccess x).draws = s.draws := rfl
@[simp] theorem State.setAccess_pending (x : LineAccess) : (s.setAccess x).pending = s.pending := rfl
@[simp] theorem State.setAccess_self : s.setAccess s.access = s := rfl
@[simp] theorem State.setAccess_again (x y : LineAccess) : (s.setAccess x).setAccess y = s.setAccess y := rfl

/-! ## State.setWatch -/

@[simp] theorem State.setWatch_station (x : List WatchEntry) : (s.setWatch x).station = s.station := rfl
@[simp] theorem State.setWatch_tally (x : List WatchEntry) : (s.setWatch x).tally = s.tally := rfl
@[simp] theorem State.setWatch_arrival (x : List WatchEntry) : (s.setWatch x).arrival = s.arrival := rfl
@[simp] theorem State.setWatch_claim (x : List WatchEntry) : (s.setWatch x).claim = s.claim := rfl
@[simp] theorem State.setWatch_inquiry (x : List WatchEntry) : (s.setWatch x).inquiry = s.inquiry := rfl
@[simp] theorem State.setWatch_rules (x : List WatchEntry) : (s.setWatch x).rules = s.rules := rfl
@[simp] theorem State.setWatch_line (x : List WatchEntry) : (s.setWatch x).line = s.line := rfl
@[simp] theorem State.setWatch_access (x : List WatchEntry) : (s.setWatch x).access = s.access := rfl
@[simp] theorem State.setWatch_watch (x : List WatchEntry) : (s.setWatch x).watch = x := rfl
@[simp] theorem State.setWatch_cond (x : List WatchEntry) : (s.setWatch x).cond = s.cond := rfl
@[simp] theorem State.setWatch_port (x : List WatchEntry) : (s.setWatch x).port = s.port := rfl
@[simp] theorem State.setWatch_clock (x : List WatchEntry) : (s.setWatch x).clock = s.clock := rfl
@[simp] theorem State.setWatch_draws (x : List WatchEntry) : (s.setWatch x).draws = s.draws := rfl
@[simp] theorem State.setWatch_pending (x : List WatchEntry) : (s.setWatch x).pending = s.pending := rfl
@[simp] theorem State.setWatch_self : s.setWatch s.watch = s := rfl
@[simp] theorem State.setWatch_again (x y : List WatchEntry) : (s.setWatch x).setWatch y = s.setWatch y := rfl

/-! ## State.setCond -/

@[simp] theorem State.setCond_station (x : ConditionUnit) : (s.setCond x).station = s.station := rfl
@[simp] theorem State.setCond_tally (x : ConditionUnit) : (s.setCond x).tally = s.tally := rfl
@[simp] theorem State.setCond_arrival (x : ConditionUnit) : (s.setCond x).arrival = s.arrival := rfl
@[simp] theorem State.setCond_claim (x : ConditionUnit) : (s.setCond x).claim = s.claim := rfl
@[simp] theorem State.setCond_inquiry (x : ConditionUnit) : (s.setCond x).inquiry = s.inquiry := rfl
@[simp] theorem State.setCond_rules (x : ConditionUnit) : (s.setCond x).rules = s.rules := rfl
@[simp] theorem State.setCond_line (x : ConditionUnit) : (s.setCond x).line = s.line := rfl
@[simp] theorem State.setCond_access (x : ConditionUnit) : (s.setCond x).access = s.access := rfl
@[simp] theorem State.setCond_watch (x : ConditionUnit) : (s.setCond x).watch = s.watch := rfl
@[simp] theorem State.setCond_cond (x : ConditionUnit) : (s.setCond x).cond = x := rfl
@[simp] theorem State.setCond_port (x : ConditionUnit) : (s.setCond x).port = s.port := rfl
@[simp] theorem State.setCond_clock (x : ConditionUnit) : (s.setCond x).clock = s.clock := rfl
@[simp] theorem State.setCond_draws (x : ConditionUnit) : (s.setCond x).draws = s.draws := rfl
@[simp] theorem State.setCond_pending (x : ConditionUnit) : (s.setCond x).pending = s.pending := rfl
@[simp] theorem State.setCond_self : s.setCond s.cond = s := rfl
@[simp] theorem State.setCond_again (x y : ConditionUnit) : (s.setCond x).setCond y = s.setCond y := rfl

/-! ## State.setPort -/

@[simp] theorem State.setPort_station (x : LanePort) : (s.setPort x).station = s.station := rfl
@[simp] theorem State.setPort_tally (x : LanePort) : (s.setPort x).tally = s.tally := rfl
@[simp] theorem State.setPort_arrival (x : LanePort) : (s.setPort x).arrival = s.arrival := rfl
@[simp] theorem State.setPort_claim (x : LanePort) : (s.setPort x).claim = s.claim := rfl
@[simp] theorem State.setPort_inquiry (x : LanePort) : (s.setPort x).inquiry = s.inquiry := rfl
@[simp] theorem State.setPort_rules (x : LanePort) : (s.setPort x).rules = s.rules := rfl
@[simp] theorem State.setPort_line (x : LanePort) : (s.setPort x).line = s.line := rfl
@[simp] theorem State.setPort_access (x : LanePort) : (s.setPort x).access = s.access := rfl
@[simp] theorem State.setPort_watch (x : LanePort) : (s.setPort x).watch = s.watch := rfl
@[simp] theorem State.setPort_cond (x : LanePort) : (s.setPort x).cond = s.cond := rfl
@[simp] theorem State.setPort_port (x : LanePort) : (s.setPort x).port = x := rfl
@[simp] theorem State.setPort_clock (x : LanePort) : (s.setPort x).clock = s.clock := rfl
@[simp] theorem State.setPort_draws (x : LanePort) : (s.setPort x).draws = s.draws := rfl
@[simp] theorem State.setPort_pending (x : LanePort) : (s.setPort x).pending = s.pending := rfl
@[simp] theorem State.setPort_self : s.setPort s.port = s := rfl
@[simp] theorem State.setPort_again (x y : LanePort) : (s.setPort x).setPort y = s.setPort y := rfl

/-! ## State.setClock -/

@[simp] theorem State.setClock_station (x : Clock) : (s.setClock x).station = s.station := rfl
@[simp] theorem State.setClock_tally (x : Clock) : (s.setClock x).tally = s.tally := rfl
@[simp] theorem State.setClock_arrival (x : Clock) : (s.setClock x).arrival = s.arrival := rfl
@[simp] theorem State.setClock_claim (x : Clock) : (s.setClock x).claim = s.claim := rfl
@[simp] theorem State.setClock_inquiry (x : Clock) : (s.setClock x).inquiry = s.inquiry := rfl
@[simp] theorem State.setClock_rules (x : Clock) : (s.setClock x).rules = s.rules := rfl
@[simp] theorem State.setClock_line (x : Clock) : (s.setClock x).line = s.line := rfl
@[simp] theorem State.setClock_access (x : Clock) : (s.setClock x).access = s.access := rfl
@[simp] theorem State.setClock_watch (x : Clock) : (s.setClock x).watch = s.watch := rfl
@[simp] theorem State.setClock_cond (x : Clock) : (s.setClock x).cond = s.cond := rfl
@[simp] theorem State.setClock_port (x : Clock) : (s.setClock x).port = s.port := rfl
@[simp] theorem State.setClock_clock (x : Clock) : (s.setClock x).clock = x := rfl
@[simp] theorem State.setClock_draws (x : Clock) : (s.setClock x).draws = s.draws := rfl
@[simp] theorem State.setClock_pending (x : Clock) : (s.setClock x).pending = s.pending := rfl
@[simp] theorem State.setClock_self : s.setClock s.clock = s := rfl
@[simp] theorem State.setClock_again (x y : Clock) : (s.setClock x).setClock y = s.setClock y := rfl

/-! ## State.setDraws -/

@[simp] theorem State.setDraws_station (x : Nat) : (s.setDraws x).station = s.station := rfl
@[simp] theorem State.setDraws_tally (x : Nat) : (s.setDraws x).tally = s.tally := rfl
@[simp] theorem State.setDraws_arrival (x : Nat) : (s.setDraws x).arrival = s.arrival := rfl
@[simp] theorem State.setDraws_claim (x : Nat) : (s.setDraws x).claim = s.claim := rfl
@[simp] theorem State.setDraws_inquiry (x : Nat) : (s.setDraws x).inquiry = s.inquiry := rfl
@[simp] theorem State.setDraws_rules (x : Nat) : (s.setDraws x).rules = s.rules := rfl
@[simp] theorem State.setDraws_line (x : Nat) : (s.setDraws x).line = s.line := rfl
@[simp] theorem State.setDraws_access (x : Nat) : (s.setDraws x).access = s.access := rfl
@[simp] theorem State.setDraws_watch (x : Nat) : (s.setDraws x).watch = s.watch := rfl
@[simp] theorem State.setDraws_cond (x : Nat) : (s.setDraws x).cond = s.cond := rfl
@[simp] theorem State.setDraws_port (x : Nat) : (s.setDraws x).port = s.port := rfl
@[simp] theorem State.setDraws_clock (x : Nat) : (s.setDraws x).clock = s.clock := rfl
@[simp] theorem State.setDraws_draws (x : Nat) : (s.setDraws x).draws = x := rfl
@[simp] theorem State.setDraws_pending (x : Nat) : (s.setDraws x).pending = s.pending := rfl
@[simp] theorem State.setDraws_self : s.setDraws s.draws = s := rfl
@[simp] theorem State.setDraws_again (x y : Nat) : (s.setDraws x).setDraws y = s.setDraws y := rfl

/-! ## State.setPending -/

@[simp] theorem State.setPending_station (x : List Instr) : (s.setPending x).station = s.station := rfl
@[simp] theorem State.setPending_tally (x : List Instr) : (s.setPending x).tally = s.tally := rfl
@[simp] theorem State.setPending_arrival (x : List Instr) : (s.setPending x).arrival = s.arrival := rfl
@[simp] theorem State.setPending_claim (x : List Instr) : (s.setPending x).claim = s.claim := rfl
@[simp] theorem State.setPending_inquiry (x : List Instr) : (s.setPending x).inquiry = s.inquiry := rfl
@[simp] theorem State.setPending_rules (x : List Instr) : (s.setPending x).rules = s.rules := rfl
@[simp] theorem State.setPending_line (x : List Instr) : (s.setPending x).line = s.line := rfl
@[simp] theorem State.setPending_access (x : List Instr) : (s.setPending x).access = s.access := rfl
@[simp] theorem State.setPending_watch (x : List Instr) : (s.setPending x).watch = s.watch := rfl
@[simp] theorem State.setPending_cond (x : List Instr) : (s.setPending x).cond = s.cond := rfl
@[simp] theorem State.setPending_port (x : List Instr) : (s.setPending x).port = s.port := rfl
@[simp] theorem State.setPending_clock (x : List Instr) : (s.setPending x).clock = s.clock := rfl
@[simp] theorem State.setPending_draws (x : List Instr) : (s.setPending x).draws = s.draws := rfl
@[simp] theorem State.setPending_pending (x : List Instr) : (s.setPending x).pending = x := rfl
@[simp] theorem State.setPending_self : s.setPending s.pending = s := rfl
@[simp] theorem State.setPending_again (x y : List Instr) : (s.setPending x).setPending y = s.setPending y := rfl

end Sys2Proof.Machine
end

