-- ==== Sys2Proof/Laws/Footprint.lean ====
section
/-! SUPPORT. What each shared operation of Ops leaves alone: one lemma for each field of the state it does not change. -/

namespace Sys2Proof.Machine

variable (s : State)

/-- What no step of a fold changes, the fold does not change. -/
theorem foldl_keeps {α β : Type} (get : State → β) (f : State → α → State) (h : ∀ s a, get (f s a) = get s) (l : List α) :
    ∀ s, get (l.foldl f s) = get s := by
  induction l with
  | nil => intro s; rfl
  | cons a l ih => intro s; exact (ih (f s a)).trans (h s a)

/-! `refresh` changes cond, access alone. -/

@[simp] theorem refresh_station : (refresh s).station = s.station := rfl
@[simp] theorem refresh_tally : (refresh s).tally = s.tally := rfl
@[simp] theorem refresh_arrival : (refresh s).arrival = s.arrival := rfl
@[simp] theorem refresh_claim : (refresh s).claim = s.claim := rfl
@[simp] theorem refresh_inquiry : (refresh s).inquiry = s.inquiry := rfl
@[simp] theorem refresh_rules : (refresh s).rules = s.rules := rfl
@[simp] theorem refresh_line : (refresh s).line = s.line := rfl
@[simp] theorem refresh_watch : (refresh s).watch = s.watch := rfl
@[simp] theorem refresh_port : (refresh s).port = s.port := rfl
@[simp] theorem refresh_clock : (refresh s).clock = s.clock := rfl
@[simp] theorem refresh_draws : (refresh s).draws = s.draws := rfl
@[simp] theorem refresh_pending : (refresh s).pending = s.pending := rfl

/-! `occur` changes cond alone. -/

@[simp] theorem occur_station (c : Condition) (d : Detail) : (occur c d s).station = s.station := by unfold occur; (repeat' split) <;> simp
@[simp] theorem occur_tally (c : Condition) (d : Detail) : (occur c d s).tally = s.tally := by unfold occur; (repeat' split) <;> simp
@[simp] theorem occur_arrival (c : Condition) (d : Detail) : (occur c d s).arrival = s.arrival := by unfold occur; (repeat' split) <;> simp
@[simp] theorem occur_claim (c : Condition) (d : Detail) : (occur c d s).claim = s.claim := by unfold occur; (repeat' split) <;> simp
@[simp] theorem occur_inquiry (c : Condition) (d : Detail) : (occur c d s).inquiry = s.inquiry := by unfold occur; (repeat' split) <;> simp
@[simp] theorem occur_rules (c : Condition) (d : Detail) : (occur c d s).rules = s.rules := by unfold occur; (repeat' split) <;> simp
@[simp] theorem occur_line (c : Condition) (d : Detail) : (occur c d s).line = s.line := by unfold occur; (repeat' split) <;> simp
@[simp] theorem occur_access (c : Condition) (d : Detail) : (occur c d s).access = s.access := by unfold occur; (repeat' split) <;> simp
@[simp] theorem occur_watch (c : Condition) (d : Detail) : (occur c d s).watch = s.watch := by unfold occur; (repeat' split) <;> simp
@[simp] theorem occur_port (c : Condition) (d : Detail) : (occur c d s).port = s.port := by unfold occur; (repeat' split) <;> simp
@[simp] theorem occur_clock (c : Condition) (d : Detail) : (occur c d s).clock = s.clock := by unfold occur; (repeat' split) <;> simp
@[simp] theorem occur_draws (c : Condition) (d : Detail) : (occur c d s).draws = s.draws := by unfold occur; (repeat' split) <;> simp
@[simp] theorem occur_pending (c : Condition) (d : Detail) : (occur c d s).pending = s.pending := by unfold occur; (repeat' split) <;> simp

/-! `occurAll` changes cond alone. -/

@[simp] theorem occurAll_station (ds : List Detail) : (occurAll ds s).station = s.station := foldl_keeps State.station _ (by intros; simp) ds s
@[simp] theorem occurAll_tally (ds : List Detail) : (occurAll ds s).tally = s.tally := foldl_keeps State.tally _ (by intros; simp) ds s
@[simp] theorem occurAll_arrival (ds : List Detail) : (occurAll ds s).arrival = s.arrival := foldl_keeps State.arrival _ (by intros; simp) ds s
@[simp] theorem occurAll_claim (ds : List Detail) : (occurAll ds s).claim = s.claim := foldl_keeps State.claim _ (by intros; simp) ds s
@[simp] theorem occurAll_inquiry (ds : List Detail) : (occurAll ds s).inquiry = s.inquiry := foldl_keeps State.inquiry _ (by intros; simp) ds s
@[simp] theorem occurAll_rules (ds : List Detail) : (occurAll ds s).rules = s.rules := foldl_keeps State.rules _ (by intros; simp) ds s
@[simp] theorem occurAll_line (ds : List Detail) : (occurAll ds s).line = s.line := foldl_keeps State.line _ (by intros; simp) ds s
@[simp] theorem occurAll_access (ds : List Detail) : (occurAll ds s).access = s.access := foldl_keeps State.access _ (by intros; simp) ds s
@[simp] theorem occurAll_watch (ds : List Detail) : (occurAll ds s).watch = s.watch := foldl_keeps State.watch _ (by intros; simp) ds s
@[simp] theorem occurAll_port (ds : List Detail) : (occurAll ds s).port = s.port := foldl_keeps State.port _ (by intros; simp) ds s
@[simp] theorem occurAll_clock (ds : List Detail) : (occurAll ds s).clock = s.clock := foldl_keeps State.clock _ (by intros; simp) ds s
@[simp] theorem occurAll_draws (ds : List Detail) : (occurAll ds s).draws = s.draws := foldl_keeps State.draws _ (by intros; simp) ds s
@[simp] theorem occurAll_pending (ds : List Detail) : (occurAll ds s).pending = s.pending := foldl_keeps State.pending _ (by intros; simp) ds s

/-! `answerRequest` changes port alone. -/

@[simp] theorem answerRequest_station (r : Request) (res : ResultCode) (bs : List Byte) : (answerRequest r res bs s).station = s.station := rfl
@[simp] theorem answerRequest_tally (r : Request) (res : ResultCode) (bs : List Byte) : (answerRequest r res bs s).tally = s.tally := rfl
@[simp] theorem answerRequest_arrival (r : Request) (res : ResultCode) (bs : List Byte) : (answerRequest r res bs s).arrival = s.arrival := rfl
@[simp] theorem answerRequest_claim (r : Request) (res : ResultCode) (bs : List Byte) : (answerRequest r res bs s).claim = s.claim := rfl
@[simp] theorem answerRequest_inquiry (r : Request) (res : ResultCode) (bs : List Byte) : (answerRequest r res bs s).inquiry = s.inquiry := rfl
@[simp] theorem answerRequest_rules (r : Request) (res : ResultCode) (bs : List Byte) : (answerRequest r res bs s).rules = s.rules := rfl
@[simp] theorem answerRequest_line (r : Request) (res : ResultCode) (bs : List Byte) : (answerRequest r res bs s).line = s.line := rfl
@[simp] theorem answerRequest_access (r : Request) (res : ResultCode) (bs : List Byte) : (answerRequest r res bs s).access = s.access := rfl
@[simp] theorem answerRequest_watch (r : Request) (res : ResultCode) (bs : List Byte) : (answerRequest r res bs s).watch = s.watch := rfl
@[simp] theorem answerRequest_cond (r : Request) (res : ResultCode) (bs : List Byte) : (answerRequest r res bs s).cond = s.cond := rfl
@[simp] theorem answerRequest_clock (r : Request) (res : ResultCode) (bs : List Byte) : (answerRequest r res bs s).clock = s.clock := rfl
@[simp] theorem answerRequest_draws (r : Request) (res : ResultCode) (bs : List Byte) : (answerRequest r res bs s).draws = s.draws := rfl
@[simp] theorem answerRequest_pending (r : Request) (res : ResultCode) (bs : List Byte) : (answerRequest r res bs s).pending = s.pending := rfl

/-! `changeItem` changes arrival alone. -/

@[simp] theorem changeItem_station (tag : Byte) (f : Item → Item) : (changeItem tag f s).station = s.station := rfl
@[simp] theorem changeItem_tally (tag : Byte) (f : Item → Item) : (changeItem tag f s).tally = s.tally := rfl
@[simp] theorem changeItem_claim (tag : Byte) (f : Item → Item) : (changeItem tag f s).claim = s.claim := rfl
@[simp] theorem changeItem_inquiry (tag : Byte) (f : Item → Item) : (changeItem tag f s).inquiry = s.inquiry := rfl
@[simp] theorem changeItem_rules (tag : Byte) (f : Item → Item) : (changeItem tag f s).rules = s.rules := rfl
@[simp] theorem changeItem_line (tag : Byte) (f : Item → Item) : (changeItem tag f s).line = s.line := rfl
@[simp] theorem changeItem_access (tag : Byte) (f : Item → Item) : (changeItem tag f s).access = s.access := rfl
@[simp] theorem changeItem_watch (tag : Byte) (f : Item → Item) : (changeItem tag f s).watch = s.watch := rfl
@[simp] theorem changeItem_cond (tag : Byte) (f : Item → Item) : (changeItem tag f s).cond = s.cond := rfl
@[simp] theorem changeItem_port (tag : Byte) (f : Item → Item) : (changeItem tag f s).port = s.port := rfl
@[simp] theorem changeItem_clock (tag : Byte) (f : Item → Item) : (changeItem tag f s).clock = s.clock := rfl
@[simp] theorem changeItem_draws (tag : Byte) (f : Item → Item) : (changeItem tag f s).draws = s.draws := rfl
@[simp] theorem changeItem_pending (tag : Byte) (f : Item → Item) : (changeItem tag f s).pending = s.pending := rfl

/-! `decideItem` changes arrival, tally, cond alone. -/

@[simp] theorem decideItem_station (tag : Byte) (d : Disposition) (h : HoldReason) : (decideItem tag d h s).station = s.station := by unfold decideItem; dsimp only; (repeat' split) <;> simp
@[simp] theorem decideItem_claim (tag : Byte) (d : Disposition) (h : HoldReason) : (decideItem tag d h s).claim = s.claim := by unfold decideItem; dsimp only; (repeat' split) <;> simp
@[simp] theorem decideItem_inquiry (tag : Byte) (d : Disposition) (h : HoldReason) : (decideItem tag d h s).inquiry = s.inquiry := by unfold decideItem; dsimp only; (repeat' split) <;> simp
@[simp] theorem decideItem_rules (tag : Byte) (d : Disposition) (h : HoldReason) : (decideItem tag d h s).rules = s.rules := by unfold decideItem; dsimp only; (repeat' split) <;> simp
@[simp] theorem decideItem_line (tag : Byte) (d : Disposition) (h : HoldReason) : (decideItem tag d h s).line = s.line := by unfold decideItem; dsimp only; (repeat' split) <;> simp
@[simp] theorem decideItem_access (tag : Byte) (d : Disposition) (h : HoldReason) : (decideItem tag d h s).access = s.access := by unfold decideItem; dsimp only; (repeat' split) <;> simp
@[simp] theorem decideItem_watch (tag : Byte) (d : Disposition) (h : HoldReason) : (decideItem tag d h s).watch = s.watch := by unfold decideItem; dsimp only; (repeat' split) <;> simp
@[simp] theorem decideItem_port (tag : Byte) (d : Disposition) (h : HoldReason) : (decideItem tag d h s).port = s.port := by unfold decideItem; dsimp only; (repeat' split) <;> simp
@[simp] theorem decideItem_clock (tag : Byte) (d : Disposition) (h : HoldReason) : (decideItem tag d h s).clock = s.clock := by unfold decideItem; dsimp only; (repeat' split) <;> simp
@[simp] theorem decideItem_draws (tag : Byte) (d : Disposition) (h : HoldReason) : (decideItem tag d h s).draws = s.draws := by unfold decideItem; dsimp only; (repeat' split) <;> simp
@[simp] theorem decideItem_pending (tag : Byte) (d : Disposition) (h : HoldReason) : (decideItem tag d h s).pending = s.pending := by unfold decideItem; dsimp only; (repeat' split) <;> simp

/-! `decideAll` changes arrival, tally, cond alone. -/

@[simp] theorem decideAll_station (h : HoldReason) : (decideAll h s).station = s.station := foldl_keeps State.station _ (by intros; simp) _ s
@[simp] theorem decideAll_claim (h : HoldReason) : (decideAll h s).claim = s.claim := foldl_keeps State.claim _ (by intros; simp) _ s
@[simp] theorem decideAll_inquiry (h : HoldReason) : (decideAll h s).inquiry = s.inquiry := foldl_keeps State.inquiry _ (by intros; simp) _ s
@[simp] theorem decideAll_rules (h : HoldReason) : (decideAll h s).rules = s.rules := foldl_keeps State.rules _ (by intros; simp) _ s
@[simp] theorem decideAll_line (h : HoldReason) : (decideAll h s).line = s.line := foldl_keeps State.line _ (by intros; simp) _ s
@[simp] theorem decideAll_access (h : HoldReason) : (decideAll h s).access = s.access := foldl_keeps State.access _ (by intros; simp) _ s
@[simp] theorem decideAll_watch (h : HoldReason) : (decideAll h s).watch = s.watch := foldl_keeps State.watch _ (by intros; simp) _ s
@[simp] theorem decideAll_port (h : HoldReason) : (decideAll h s).port = s.port := foldl_keeps State.port _ (by intros; simp) _ s
@[simp] theorem decideAll_clock (h : HoldReason) : (decideAll h s).clock = s.clock := foldl_keeps State.clock _ (by intros; simp) _ s
@[simp] theorem decideAll_draws (h : HoldReason) : (decideAll h s).draws = s.draws := foldl_keeps State.draws _ (by intros; simp) _ s
@[simp] theorem decideAll_pending (h : HoldReason) : (decideAll h s).pending = s.pending := foldl_keeps State.pending _ (by intros; simp) _ s

/-! `finishClearWork` changes cond, port alone. -/

@[simp] theorem finishClearWork_station : (finishClearWork s).station = s.station := by unfold finishClearWork; dsimp only; (repeat' split) <;> simp
@[simp] theorem finishClearWork_tally : (finishClearWork s).tally = s.tally := by unfold finishClearWork; dsimp only; (repeat' split) <;> simp
@[simp] theorem finishClearWork_arrival : (finishClearWork s).arrival = s.arrival := by unfold finishClearWork; dsimp only; (repeat' split) <;> simp
@[simp] theorem finishClearWork_claim : (finishClearWork s).claim = s.claim := by unfold finishClearWork; dsimp only; (repeat' split) <;> simp
@[simp] theorem finishClearWork_inquiry : (finishClearWork s).inquiry = s.inquiry := by unfold finishClearWork; dsimp only; (repeat' split) <;> simp
@[simp] theorem finishClearWork_rules : (finishClearWork s).rules = s.rules := by unfold finishClearWork; dsimp only; (repeat' split) <;> simp
@[simp] theorem finishClearWork_line : (finishClearWork s).line = s.line := by unfold finishClearWork; dsimp only; (repeat' split) <;> simp
@[simp] theorem finishClearWork_access : (finishClearWork s).access = s.access := by unfold finishClearWork; dsimp only; (repeat' split) <;> simp
@[simp] theorem finishClearWork_watch : (finishClearWork s).watch = s.watch := by unfold finishClearWork; dsimp only; (repeat' split) <;> simp
@[simp] theorem finishClearWork_clock : (finishClearWork s).clock = s.clock := by unfold finishClearWork; dsimp only; (repeat' split) <;> simp
@[simp] theorem finishClearWork_draws : (finishClearWork s).draws = s.draws := by unfold finishClearWork; dsimp only; (repeat' split) <;> simp
@[simp] theorem finishClearWork_pending : (finishClearWork s).pending = s.pending := by unfold finishClearWork; dsimp only; (repeat' split) <;> simp

/-! `releaseItems` changes arrival, port, cond alone. -/

@[simp] theorem releaseItems_station : (releaseItems s).station = s.station := by unfold releaseItems; dsimp only; split <;> simp
@[simp] theorem releaseItems_tally : (releaseItems s).tally = s.tally := by unfold releaseItems; dsimp only; split <;> simp
@[simp] theorem releaseItems_claim : (releaseItems s).claim = s.claim := by unfold releaseItems; dsimp only; split <;> simp
@[simp] theorem releaseItems_inquiry : (releaseItems s).inquiry = s.inquiry := by unfold releaseItems; dsimp only; split <;> simp
@[simp] theorem releaseItems_rules : (releaseItems s).rules = s.rules := by unfold releaseItems; dsimp only; split <;> simp
@[simp] theorem releaseItems_line : (releaseItems s).line = s.line := by unfold releaseItems; dsimp only; split <;> simp
@[simp] theorem releaseItems_access : (releaseItems s).access = s.access := by unfold releaseItems; dsimp only; split <;> simp
@[simp] theorem releaseItems_watch : (releaseItems s).watch = s.watch := by unfold releaseItems; dsimp only; split <;> simp
@[simp] theorem releaseItems_clock : (releaseItems s).clock = s.clock := by unfold releaseItems; dsimp only; split <;> simp
@[simp] theorem releaseItems_draws : (releaseItems s).draws = s.draws := by unfold releaseItems; dsimp only; split <;> simp
@[simp] theorem releaseItems_pending : (releaseItems s).pending = s.pending := by unfold releaseItems; dsimp only; split <;> simp

/-! `enterHalted` changes station, access, arrival, tally, cond, claim, inquiry, line, port alone. -/

@[simp] theorem enterHalted_rules : (enterHalted s).rules = s.rules := by unfold enterHalted; dsimp only; split <;> simp
@[simp] theorem enterHalted_watch : (enterHalted s).watch = s.watch := by unfold enterHalted; dsimp only; split <;> simp
@[simp] theorem enterHalted_clock : (enterHalted s).clock = s.clock := by unfold enterHalted; dsimp only; split <;> simp
@[simp] theorem enterHalted_draws : (enterHalted s).draws = s.draws := by unfold enterHalted; dsimp only; split <;> simp
@[simp] theorem enterHalted_pending : (enterHalted s).pending = s.pending := by unfold enterHalted; dsimp only; split <;> simp

/-! `haltOccurrence` changes station, access, arrival, tally, cond, claim, inquiry, line, port alone. -/

@[simp] theorem haltOccurrence_rules (c : Condition) (d : Detail) : (haltOccurrence c d s).rules = s.rules := by simp [haltOccurrence]
@[simp] theorem haltOccurrence_watch (c : Condition) (d : Detail) : (haltOccurrence c d s).watch = s.watch := by simp [haltOccurrence]
@[simp] theorem haltOccurrence_clock (c : Condition) (d : Detail) : (haltOccurrence c d s).clock = s.clock := by simp [haltOccurrence]
@[simp] theorem haltOccurrence_draws (c : Condition) (d : Detail) : (haltOccurrence c d s).draws = s.draws := by simp [haltOccurrence]
@[simp] theorem haltOccurrence_pending (c : Condition) (d : Detail) : (haltOccurrence c d s).pending = s.pending := by simp [haltOccurrence]

/-! `memoryFault` changes station, access, arrival, tally, cond, claim, inquiry, line, port, draws alone. -/

@[simp] theorem memoryFault_rules (k : TitleKey) : (memoryFault k s).rules = s.rules := by simp [memoryFault]
@[simp] theorem memoryFault_watch (k : TitleKey) : (memoryFault k s).watch = s.watch := by simp [memoryFault]
@[simp] theorem memoryFault_clock (k : TitleKey) : (memoryFault k s).clock = s.clock := by simp [memoryFault]
@[simp] theorem memoryFault_pending (k : TitleKey) : (memoryFault k s).pending = s.pending := by simp [memoryFault]

/-! `advanceEpoch` changes tally alone. -/

@[simp] theorem advanceEpoch_station : (advanceEpoch s).station = s.station := rfl
@[simp] theorem advanceEpoch_arrival : (advanceEpoch s).arrival = s.arrival := rfl
@[simp] theorem advanceEpoch_claim : (advanceEpoch s).claim = s.claim := rfl
@[simp] theorem advanceEpoch_inquiry : (advanceEpoch s).inquiry = s.inquiry := rfl
@[simp] theorem advanceEpoch_rules : (advanceEpoch s).rules = s.rules := rfl
@[simp] theorem advanceEpoch_line : (advanceEpoch s).line = s.line := rfl
@[simp] theorem advanceEpoch_access : (advanceEpoch s).access = s.access := rfl
@[simp] theorem advanceEpoch_watch : (advanceEpoch s).watch = s.watch := rfl
@[simp] theorem advanceEpoch_cond : (advanceEpoch s).cond = s.cond := rfl
@[simp] theorem advanceEpoch_port : (advanceEpoch s).port = s.port := rfl
@[simp] theorem advanceEpoch_clock : (advanceEpoch s).clock = s.clock := rfl
@[simp] theorem advanceEpoch_draws : (advanceEpoch s).draws = s.draws := rfl
@[simp] theorem advanceEpoch_pending : (advanceEpoch s).pending = s.pending := rfl

/-! `queueClaim` changes arrival, access alone. -/

@[simp] theorem queueClaim_station (tag : Byte) : (queueClaim tag s).station = s.station := rfl
@[simp] theorem queueClaim_tally (tag : Byte) : (queueClaim tag s).tally = s.tally := rfl
@[simp] theorem queueClaim_claim (tag : Byte) : (queueClaim tag s).claim = s.claim := rfl
@[simp] theorem queueClaim_inquiry (tag : Byte) : (queueClaim tag s).inquiry = s.inquiry := rfl
@[simp] theorem queueClaim_rules (tag : Byte) : (queueClaim tag s).rules = s.rules := rfl
@[simp] theorem queueClaim_line (tag : Byte) : (queueClaim tag s).line = s.line := rfl
@[simp] theorem queueClaim_watch (tag : Byte) : (queueClaim tag s).watch = s.watch := rfl
@[simp] theorem queueClaim_cond (tag : Byte) : (queueClaim tag s).cond = s.cond := rfl
@[simp] theorem queueClaim_port (tag : Byte) : (queueClaim tag s).port = s.port := rfl
@[simp] theorem queueClaim_clock (tag : Byte) : (queueClaim tag s).clock = s.clock := rfl
@[simp] theorem queueClaim_draws (tag : Byte) : (queueClaim tag s).draws = s.draws := rfl
@[simp] theorem queueClaim_pending (tag : Byte) : (queueClaim tag s).pending = s.pending := rfl

/-! `joinInquiry` changes inquiry, access alone. -/

@[simp] theorem joinInquiry_station (tag : Byte) (k : TitleKey) : (joinInquiry tag k s).station = s.station := by unfold joinInquiry; (repeat' split) <;> simp
@[simp] theorem joinInquiry_tally (tag : Byte) (k : TitleKey) : (joinInquiry tag k s).tally = s.tally := by unfold joinInquiry; (repeat' split) <;> simp
@[simp] theorem joinInquiry_arrival (tag : Byte) (k : TitleKey) : (joinInquiry tag k s).arrival = s.arrival := by unfold joinInquiry; (repeat' split) <;> simp
@[simp] theorem joinInquiry_claim (tag : Byte) (k : TitleKey) : (joinInquiry tag k s).claim = s.claim := by unfold joinInquiry; (repeat' split) <;> simp
@[simp] theorem joinInquiry_rules (tag : Byte) (k : TitleKey) : (joinInquiry tag k s).rules = s.rules := by unfold joinInquiry; (repeat' split) <;> simp
@[simp] theorem joinInquiry_line (tag : Byte) (k : TitleKey) : (joinInquiry tag k s).line = s.line := by unfold joinInquiry; (repeat' split) <;> simp
@[simp] theorem joinInquiry_watch (tag : Byte) (k : TitleKey) : (joinInquiry tag k s).watch = s.watch := by unfold joinInquiry; (repeat' split) <;> simp
@[simp] theorem joinInquiry_cond (tag : Byte) (k : TitleKey) : (joinInquiry tag k s).cond = s.cond := by unfold joinInquiry; (repeat' split) <;> simp
@[simp] theorem joinInquiry_port (tag : Byte) (k : TitleKey) : (joinInquiry tag k s).port = s.port := by unfold joinInquiry; (repeat' split) <;> simp
@[simp] theorem joinInquiry_clock (tag : Byte) (k : TitleKey) : (joinInquiry tag k s).clock = s.clock := by unfold joinInquiry; (repeat' split) <;> simp
@[simp] theorem joinInquiry_draws (tag : Byte) (k : TitleKey) : (joinInquiry tag k s).draws = s.draws := by unfold joinInquiry; (repeat' split) <;> simp
@[simp] theorem joinInquiry_pending (tag : Byte) (k : TitleKey) : (joinInquiry tag k s).pending = s.pending := by unfold joinInquiry; (repeat' split) <;> simp

/-! `closeToQueued` changes inquiry, arrival, access alone. -/

@[simp] theorem closeToQueued_station (k : TitleKey) : (closeToQueued k s).station = s.station := by
  unfold closeToQueued
  split
  · rfl
  · exact foldl_keeps State.station _ (by intros; simp) _ _
@[simp] theorem closeToQueued_tally (k : TitleKey) : (closeToQueued k s).tally = s.tally := by
  unfold closeToQueued
  split
  · rfl
  · exact foldl_keeps State.tally _ (by intros; simp) _ _
@[simp] theorem closeToQueued_claim (k : TitleKey) : (closeToQueued k s).claim = s.claim := by
  unfold closeToQueued
  split
  · rfl
  · exact foldl_keeps State.claim _ (by intros; simp) _ _
@[simp] theorem closeToQueued_rules (k : TitleKey) : (closeToQueued k s).rules = s.rules := by
  unfold closeToQueued
  split
  · rfl
  · exact foldl_keeps State.rules _ (by intros; simp) _ _
@[simp] theorem closeToQueued_line (k : TitleKey) : (closeToQueued k s).line = s.line := by
  unfold closeToQueued
  split
  · rfl
  · exact foldl_keeps State.line _ (by intros; simp) _ _
@[simp] theorem closeToQueued_watch (k : TitleKey) : (closeToQueued k s).watch = s.watch := by
  unfold closeToQueued
  split
  · rfl
  · exact foldl_keeps State.watch _ (by intros; simp) _ _
@[simp] theorem closeToQueued_cond (k : TitleKey) : (closeToQueued k s).cond = s.cond := by
  unfold closeToQueued
  split
  · rfl
  · exact foldl_keeps State.cond _ (by intros; simp) _ _
@[simp] theorem closeToQueued_port (k : TitleKey) : (closeToQueued k s).port = s.port := by
  unfold closeToQueued
  split
  · rfl
  · exact foldl_keeps State.port _ (by intros; simp) _ _
@[simp] theorem closeToQueued_clock (k : TitleKey) : (closeToQueued k s).clock = s.clock := by
  unfold closeToQueued
  split
  · rfl
  · exact foldl_keeps State.clock _ (by intros; simp) _ _
@[simp] theorem closeToQueued_draws (k : TitleKey) : (closeToQueued k s).draws = s.draws := by
  unfold closeToQueued
  split
  · rfl
  · exact foldl_keeps State.draws _ (by intros; simp) _ _
@[simp] theorem closeToQueued_pending (k : TitleKey) : (closeToQueued k s).pending = s.pending := by
  unfold closeToQueued
  split
  · rfl
  · exact foldl_keeps State.pending _ (by intros; simp) _ _

/-! `closeInquiry` changes inquiry, access alone. -/

@[simp] theorem closeInquiry_station (q : Inquiry) : (closeInquiry q s).station = s.station := by unfold closeInquiry; dsimp only; split <;> simp
@[simp] theorem closeInquiry_tally (q : Inquiry) : (closeInquiry q s).tally = s.tally := by unfold closeInquiry; dsimp only; split <;> simp
@[simp] theorem closeInquiry_arrival (q : Inquiry) : (closeInquiry q s).arrival = s.arrival := by unfold closeInquiry; dsimp only; split <;> simp
@[simp] theorem closeInquiry_claim (q : Inquiry) : (closeInquiry q s).claim = s.claim := by unfold closeInquiry; dsimp only; split <;> simp
@[simp] theorem closeInquiry_rules (q : Inquiry) : (closeInquiry q s).rules = s.rules := by unfold closeInquiry; dsimp only; split <;> simp
@[simp] theorem closeInquiry_line (q : Inquiry) : (closeInquiry q s).line = s.line := by unfold closeInquiry; dsimp only; split <;> simp
@[simp] theorem closeInquiry_watch (q : Inquiry) : (closeInquiry q s).watch = s.watch := by unfold closeInquiry; dsimp only; split <;> simp
@[simp] theorem closeInquiry_cond (q : Inquiry) : (closeInquiry q s).cond = s.cond := by unfold closeInquiry; dsimp only; split <;> simp
@[simp] theorem closeInquiry_port (q : Inquiry) : (closeInquiry q s).port = s.port := by unfold closeInquiry; dsimp only; split <;> simp
@[simp] theorem closeInquiry_clock (q : Inquiry) : (closeInquiry q s).clock = s.clock := by unfold closeInquiry; dsimp only; split <;> simp
@[simp] theorem closeInquiry_draws (q : Inquiry) : (closeInquiry q s).draws = s.draws := by unfold closeInquiry; dsimp only; split <;> simp
@[simp] theorem closeInquiry_pending (q : Inquiry) : (closeInquiry q s).pending = s.pending := by unfold closeInquiry; dsimp only; split <;> simp

/-! `leaveInquiry` changes inquiry, access alone. -/

@[simp] theorem leaveInquiry_station (tag : Byte) (k : TitleKey) : (leaveInquiry tag k s).station = s.station := by unfold leaveInquiry; dsimp only; (repeat' split) <;> simp
@[simp] theorem leaveInquiry_tally (tag : Byte) (k : TitleKey) : (leaveInquiry tag k s).tally = s.tally := by unfold leaveInquiry; dsimp only; (repeat' split) <;> simp
@[simp] theorem leaveInquiry_arrival (tag : Byte) (k : TitleKey) : (leaveInquiry tag k s).arrival = s.arrival := by unfold leaveInquiry; dsimp only; (repeat' split) <;> simp
@[simp] theorem leaveInquiry_claim (tag : Byte) (k : TitleKey) : (leaveInquiry tag k s).claim = s.claim := by unfold leaveInquiry; dsimp only; (repeat' split) <;> simp
@[simp] theorem leaveInquiry_rules (tag : Byte) (k : TitleKey) : (leaveInquiry tag k s).rules = s.rules := by unfold leaveInquiry; dsimp only; (repeat' split) <;> simp
@[simp] theorem leaveInquiry_line (tag : Byte) (k : TitleKey) : (leaveInquiry tag k s).line = s.line := by unfold leaveInquiry; dsimp only; (repeat' split) <;> simp
@[simp] theorem leaveInquiry_watch (tag : Byte) (k : TitleKey) : (leaveInquiry tag k s).watch = s.watch := by unfold leaveInquiry; dsimp only; (repeat' split) <;> simp
@[simp] theorem leaveInquiry_cond (tag : Byte) (k : TitleKey) : (leaveInquiry tag k s).cond = s.cond := by unfold leaveInquiry; dsimp only; (repeat' split) <;> simp
@[simp] theorem leaveInquiry_port (tag : Byte) (k : TitleKey) : (leaveInquiry tag k s).port = s.port := by unfold leaveInquiry; dsimp only; (repeat' split) <;> simp
@[simp] theorem leaveInquiry_clock (tag : Byte) (k : TitleKey) : (leaveInquiry tag k s).clock = s.clock := by unfold leaveInquiry; dsimp only; (repeat' split) <;> simp
@[simp] theorem leaveInquiry_draws (tag : Byte) (k : TitleKey) : (leaveInquiry tag k s).draws = s.draws := by unfold leaveInquiry; dsimp only; (repeat' split) <;> simp
@[simp] theorem leaveInquiry_pending (tag : Byte) (k : TitleKey) : (leaveInquiry tag k s).pending = s.pending := by unfold leaveInquiry; dsimp only; (repeat' split) <;> simp

/-! `scanLineEvent` changes watch, cond alone. -/

@[simp] theorem scanLineEvent_station (k : TitleKey) (l : Lane) (e : WatchEvent) : (scanLineEvent k l s e).station = s.station := by unfold scanLineEvent; (repeat' split) <;> simp
@[simp] theorem scanLineEvent_tally (k : TitleKey) (l : Lane) (e : WatchEvent) : (scanLineEvent k l s e).tally = s.tally := by unfold scanLineEvent; (repeat' split) <;> simp
@[simp] theorem scanLineEvent_arrival (k : TitleKey) (l : Lane) (e : WatchEvent) : (scanLineEvent k l s e).arrival = s.arrival := by unfold scanLineEvent; (repeat' split) <;> simp
@[simp] theorem scanLineEvent_claim (k : TitleKey) (l : Lane) (e : WatchEvent) : (scanLineEvent k l s e).claim = s.claim := by unfold scanLineEvent; (repeat' split) <;> simp
@[simp] theorem scanLineEvent_inquiry (k : TitleKey) (l : Lane) (e : WatchEvent) : (scanLineEvent k l s e).inquiry = s.inquiry := by unfold scanLineEvent; (repeat' split) <;> simp
@[simp] theorem scanLineEvent_rules (k : TitleKey) (l : Lane) (e : WatchEvent) : (scanLineEvent k l s e).rules = s.rules := by unfold scanLineEvent; (repeat' split) <;> simp
@[simp] theorem scanLineEvent_line (k : TitleKey) (l : Lane) (e : WatchEvent) : (scanLineEvent k l s e).line = s.line := by unfold scanLineEvent; (repeat' split) <;> simp
@[simp] theorem scanLineEvent_access (k : TitleKey) (l : Lane) (e : WatchEvent) : (scanLineEvent k l s e).access = s.access := by unfold scanLineEvent; (repeat' split) <;> simp
@[simp] theorem scanLineEvent_port (k : TitleKey) (l : Lane) (e : WatchEvent) : (scanLineEvent k l s e).port = s.port := by unfold scanLineEvent; (repeat' split) <;> simp
@[simp] theorem scanLineEvent_clock (k : TitleKey) (l : Lane) (e : WatchEvent) : (scanLineEvent k l s e).clock = s.clock := by unfold scanLineEvent; (repeat' split) <;> simp
@[simp] theorem scanLineEvent_draws (k : TitleKey) (l : Lane) (e : WatchEvent) : (scanLineEvent k l s e).draws = s.draws := by unfold scanLineEvent; (repeat' split) <;> simp
@[simp] theorem scanLineEvent_pending (k : TitleKey) (l : Lane) (e : WatchEvent) : (scanLineEvent k l s e).pending = s.pending := by unfold scanLineEvent; (repeat' split) <;> simp

/-! `scanApplied` changes watch, cond alone. -/

@[simp] theorem scanApplied_station (k : TitleKey) (l : Lane) (b : Bool) (n : Option (Nat × Nat)) : (scanApplied k l b n s).station = s.station := by
  unfold scanApplied
  split
  · rfl
  · exact foldl_keeps State.station _ (by intros; simp) _ _
@[simp] theorem scanApplied_tally (k : TitleKey) (l : Lane) (b : Bool) (n : Option (Nat × Nat)) : (scanApplied k l b n s).tally = s.tally := by
  unfold scanApplied
  split
  · rfl
  · exact foldl_keeps State.tally _ (by intros; simp) _ _
@[simp] theorem scanApplied_arrival (k : TitleKey) (l : Lane) (b : Bool) (n : Option (Nat × Nat)) : (scanApplied k l b n s).arrival = s.arrival := by
  unfold scanApplied
  split
  · rfl
  · exact foldl_keeps State.arrival _ (by intros; simp) _ _
@[simp] theorem scanApplied_claim (k : TitleKey) (l : Lane) (b : Bool) (n : Option (Nat × Nat)) : (scanApplied k l b n s).claim = s.claim := by
  unfold scanApplied
  split
  · rfl
  · exact foldl_keeps State.claim _ (by intros; simp) _ _
@[simp] theorem scanApplied_inquiry (k : TitleKey) (l : Lane) (b : Bool) (n : Option (Nat × Nat)) : (scanApplied k l b n s).inquiry = s.inquiry := by
  unfold scanApplied
  split
  · rfl
  · exact foldl_keeps State.inquiry _ (by intros; simp) _ _
@[simp] theorem scanApplied_rules (k : TitleKey) (l : Lane) (b : Bool) (n : Option (Nat × Nat)) : (scanApplied k l b n s).rules = s.rules := by
  unfold scanApplied
  split
  · rfl
  · exact foldl_keeps State.rules _ (by intros; simp) _ _
@[simp] theorem scanApplied_line (k : TitleKey) (l : Lane) (b : Bool) (n : Option (Nat × Nat)) : (scanApplied k l b n s).line = s.line := by
  unfold scanApplied
  split
  · rfl
  · exact foldl_keeps State.line _ (by intros; simp) _ _
@[simp] theorem scanApplied_access (k : TitleKey) (l : Lane) (b : Bool) (n : Option (Nat × Nat)) : (scanApplied k l b n s).access = s.access := by
  unfold scanApplied
  split
  · rfl
  · exact foldl_keeps State.access _ (by intros; simp) _ _
@[simp] theorem scanApplied_port (k : TitleKey) (l : Lane) (b : Bool) (n : Option (Nat × Nat)) : (scanApplied k l b n s).port = s.port := by
  unfold scanApplied
  split
  · rfl
  · exact foldl_keeps State.port _ (by intros; simp) _ _
@[simp] theorem scanApplied_clock (k : TitleKey) (l : Lane) (b : Bool) (n : Option (Nat × Nat)) : (scanApplied k l b n s).clock = s.clock := by
  unfold scanApplied
  split
  · rfl
  · exact foldl_keeps State.clock _ (by intros; simp) _ _
@[simp] theorem scanApplied_draws (k : TitleKey) (l : Lane) (b : Bool) (n : Option (Nat × Nat)) : (scanApplied k l b n s).draws = s.draws := by
  unfold scanApplied
  split
  · rfl
  · exact foldl_keeps State.draws _ (by intros; simp) _ _
@[simp] theorem scanApplied_pending (k : TitleKey) (l : Lane) (b : Bool) (n : Option (Nat × Nat)) : (scanApplied k l b n s).pending = s.pending := by
  unfold scanApplied
  split
  · rfl
  · exact foldl_keeps State.pending _ (by intros; simp) _ _

/-! `rosterCheck` changes claim, cond, tally alone. -/

@[simp] theorem rosterCheck_station (kd : FrameKind) (l : Lane) (q : Byte) (k : TitleKey) : (rosterCheck kd l q k s).station = s.station := by unfold rosterCheck; dsimp only; split <;> simp
@[simp] theorem rosterCheck_arrival (kd : FrameKind) (l : Lane) (q : Byte) (k : TitleKey) : (rosterCheck kd l q k s).arrival = s.arrival := by unfold rosterCheck; dsimp only; split <;> simp
@[simp] theorem rosterCheck_inquiry (kd : FrameKind) (l : Lane) (q : Byte) (k : TitleKey) : (rosterCheck kd l q k s).inquiry = s.inquiry := by unfold rosterCheck; dsimp only; split <;> simp
@[simp] theorem rosterCheck_rules (kd : FrameKind) (l : Lane) (q : Byte) (k : TitleKey) : (rosterCheck kd l q k s).rules = s.rules := by unfold rosterCheck; dsimp only; split <;> simp
@[simp] theorem rosterCheck_line (kd : FrameKind) (l : Lane) (q : Byte) (k : TitleKey) : (rosterCheck kd l q k s).line = s.line := by unfold rosterCheck; dsimp only; split <;> simp
@[simp] theorem rosterCheck_access (kd : FrameKind) (l : Lane) (q : Byte) (k : TitleKey) : (rosterCheck kd l q k s).access = s.access := by unfold rosterCheck; dsimp only; split <;> simp
@[simp] theorem rosterCheck_watch (kd : FrameKind) (l : Lane) (q : Byte) (k : TitleKey) : (rosterCheck kd l q k s).watch = s.watch := by unfold rosterCheck; dsimp only; split <;> simp
@[simp] theorem rosterCheck_port (kd : FrameKind) (l : Lane) (q : Byte) (k : TitleKey) : (rosterCheck kd l q k s).port = s.port := by unfold rosterCheck; dsimp only; split <;> simp
@[simp] theorem rosterCheck_clock (kd : FrameKind) (l : Lane) (q : Byte) (k : TitleKey) : (rosterCheck kd l q k s).clock = s.clock := by unfold rosterCheck; dsimp only; split <;> simp
@[simp] theorem rosterCheck_draws (kd : FrameKind) (l : Lane) (q : Byte) (k : TitleKey) : (rosterCheck kd l q k s).draws = s.draws := by unfold rosterCheck; dsimp only; split <;> simp
@[simp] theorem rosterCheck_pending (kd : FrameKind) (l : Lane) (q : Byte) (k : TitleKey) : (rosterCheck kd l q k s).pending = s.pending := by unfold rosterCheck; dsimp only; split <;> simp

/-! `scheduleCorrection` changes claim, cond alone. -/

@[simp] theorem scheduleCorrection_station (l : Lane) (q : Byte) (k : TitleKey) (v : Nat) : (scheduleCorrection l q k v s).station = s.station := by unfold scheduleCorrection; (repeat' split) <;> simp
@[simp] theorem scheduleCorrection_tally (l : Lane) (q : Byte) (k : TitleKey) (v : Nat) : (scheduleCorrection l q k v s).tally = s.tally := by unfold scheduleCorrection; (repeat' split) <;> simp
@[simp] theorem scheduleCorrection_arrival (l : Lane) (q : Byte) (k : TitleKey) (v : Nat) : (scheduleCorrection l q k v s).arrival = s.arrival := by unfold scheduleCorrection; (repeat' split) <;> simp
@[simp] theorem scheduleCorrection_inquiry (l : Lane) (q : Byte) (k : TitleKey) (v : Nat) : (scheduleCorrection l q k v s).inquiry = s.inquiry := by unfold scheduleCorrection; (repeat' split) <;> simp
@[simp] theorem scheduleCorrection_rules (l : Lane) (q : Byte) (k : TitleKey) (v : Nat) : (scheduleCorrection l q k v s).rules = s.rules := by unfold scheduleCorrection; (repeat' split) <;> simp
@[simp] theorem scheduleCorrection_line (l : Lane) (q : Byte) (k : TitleKey) (v : Nat) : (scheduleCorrection l q k v s).line = s.line := by unfold scheduleCorrection; (repeat' split) <;> simp
@[simp] theorem scheduleCorrection_access (l : Lane) (q : Byte) (k : TitleKey) (v : Nat) : (scheduleCorrection l q k v s).access = s.access := by unfold scheduleCorrection; (repeat' split) <;> simp
@[simp] theorem scheduleCorrection_watch (l : Lane) (q : Byte) (k : TitleKey) (v : Nat) : (scheduleCorrection l q k v s).watch = s.watch := by unfold scheduleCorrection; (repeat' split) <;> simp
@[simp] theorem scheduleCorrection_port (l : Lane) (q : Byte) (k : TitleKey) (v : Nat) : (scheduleCorrection l q k v s).port = s.port := by unfold scheduleCorrection; (repeat' split) <;> simp
@[simp] theorem scheduleCorrection_clock (l : Lane) (q : Byte) (k : TitleKey) (v : Nat) : (scheduleCorrection l q k v s).clock = s.clock := by unfold scheduleCorrection; (repeat' split) <;> simp
@[simp] theorem scheduleCorrection_draws (l : Lane) (q : Byte) (k : TitleKey) (v : Nat) : (scheduleCorrection l q k v s).draws = s.draws := by unfold scheduleCorrection; (repeat' split) <;> simp
@[simp] theorem scheduleCorrection_pending (l : Lane) (q : Byte) (k : TitleKey) (v : Nat) : (scheduleCorrection l q k v s).pending = s.pending := by unfold scheduleCorrection; (repeat' split) <;> simp

/-! `removeCorrections` changes claim, access alone. -/

@[simp] theorem removeCorrections_station (p : Correction → Bool) : (removeCorrections p s).station = s.station := rfl
@[simp] theorem removeCorrections_tally (p : Correction → Bool) : (removeCorrections p s).tally = s.tally := rfl
@[simp] theorem removeCorrections_arrival (p : Correction → Bool) : (removeCorrections p s).arrival = s.arrival := rfl
@[simp] theorem removeCorrections_inquiry (p : Correction → Bool) : (removeCorrections p s).inquiry = s.inquiry := rfl
@[simp] theorem removeCorrections_rules (p : Correction → Bool) : (removeCorrections p s).rules = s.rules := rfl
@[simp] theorem removeCorrections_line (p : Correction → Bool) : (removeCorrections p s).line = s.line := rfl
@[simp] theorem removeCorrections_watch (p : Correction → Bool) : (removeCorrections p s).watch = s.watch := rfl
@[simp] theorem removeCorrections_cond (p : Correction → Bool) : (removeCorrections p s).cond = s.cond := rfl
@[simp] theorem removeCorrections_port (p : Correction → Bool) : (removeCorrections p s).port = s.port := rfl
@[simp] theorem removeCorrections_clock (p : Correction → Bool) : (removeCorrections p s).clock = s.clock := rfl
@[simp] theorem removeCorrections_draws (p : Correction → Bool) : (removeCorrections p s).draws = s.draws := rfl
@[simp] theorem removeCorrections_pending (p : Correction → Bool) : (removeCorrections p s).pending = s.pending := rfl

/-! `removeAnswers` changes inquiry, access alone. -/

@[simp] theorem removeAnswers_station (p : Answer → Bool) : (removeAnswers p s).station = s.station := rfl
@[simp] theorem removeAnswers_tally (p : Answer → Bool) : (removeAnswers p s).tally = s.tally := rfl
@[simp] theorem removeAnswers_arrival (p : Answer → Bool) : (removeAnswers p s).arrival = s.arrival := rfl
@[simp] theorem removeAnswers_claim (p : Answer → Bool) : (removeAnswers p s).claim = s.claim := rfl
@[simp] theorem removeAnswers_rules (p : Answer → Bool) : (removeAnswers p s).rules = s.rules := rfl
@[simp] theorem removeAnswers_line (p : Answer → Bool) : (removeAnswers p s).line = s.line := rfl
@[simp] theorem removeAnswers_watch (p : Answer → Bool) : (removeAnswers p s).watch = s.watch := rfl
@[simp] theorem removeAnswers_cond (p : Answer → Bool) : (removeAnswers p s).cond = s.cond := rfl
@[simp] theorem removeAnswers_port (p : Answer → Bool) : (removeAnswers p s).port = s.port := rfl
@[simp] theorem removeAnswers_clock (p : Answer → Bool) : (removeAnswers p s).clock = s.clock := rfl
@[simp] theorem removeAnswers_draws (p : Answer → Bool) : (removeAnswers p s).draws = s.draws := rfl
@[simp] theorem removeAnswers_pending (p : Answer → Bool) : (removeAnswers p s).pending = s.pending := rfl

end Sys2Proof.Machine
end

