-- ==== Sys2Proof/Laws/FootprintParts.lean ====
section
/-! SUPPORT. What each part of a command leaves alone: one lemma for each field of the state it does not change. -/

namespace Sys2Proof.Machine

variable (s : State)

/-! `lineIdle` changes line alone. -/

@[simp] theorem lineIdle_station : (lineIdle s).station = s.station := rfl
@[simp] theorem lineIdle_tally : (lineIdle s).tally = s.tally := rfl
@[simp] theorem lineIdle_arrival : (lineIdle s).arrival = s.arrival := rfl
@[simp] theorem lineIdle_claim : (lineIdle s).claim = s.claim := rfl
@[simp] theorem lineIdle_inquiry : (lineIdle s).inquiry = s.inquiry := rfl
@[simp] theorem lineIdle_rules : (lineIdle s).rules = s.rules := rfl
@[simp] theorem lineIdle_access : (lineIdle s).access = s.access := rfl
@[simp] theorem lineIdle_watch : (lineIdle s).watch = s.watch := rfl
@[simp] theorem lineIdle_cond : (lineIdle s).cond = s.cond := rfl
@[simp] theorem lineIdle_port : (lineIdle s).port = s.port := rfl
@[simp] theorem lineIdle_clock : (lineIdle s).clock = s.clock := rfl
@[simp] theorem lineIdle_draws : (lineIdle s).draws = s.draws := rfl
@[simp] theorem lineIdle_pending : (lineIdle s).pending = s.pending := rfl

/-! `setAssembler` changes line alone. -/

@[simp] theorem setAssembler_station (a : Assembler) : (setAssembler a s).station = s.station := rfl
@[simp] theorem setAssembler_tally (a : Assembler) : (setAssembler a s).tally = s.tally := rfl
@[simp] theorem setAssembler_arrival (a : Assembler) : (setAssembler a s).arrival = s.arrival := rfl
@[simp] theorem setAssembler_claim (a : Assembler) : (setAssembler a s).claim = s.claim := rfl
@[simp] theorem setAssembler_inquiry (a : Assembler) : (setAssembler a s).inquiry = s.inquiry := rfl
@[simp] theorem setAssembler_rules (a : Assembler) : (setAssembler a s).rules = s.rules := rfl
@[simp] theorem setAssembler_access (a : Assembler) : (setAssembler a s).access = s.access := rfl
@[simp] theorem setAssembler_watch (a : Assembler) : (setAssembler a s).watch = s.watch := rfl
@[simp] theorem setAssembler_cond (a : Assembler) : (setAssembler a s).cond = s.cond := rfl
@[simp] theorem setAssembler_port (a : Assembler) : (setAssembler a s).port = s.port := rfl
@[simp] theorem setAssembler_clock (a : Assembler) : (setAssembler a s).clock = s.clock := rfl
@[simp] theorem setAssembler_draws (a : Assembler) : (setAssembler a s).draws = s.draws := rfl
@[simp] theorem setAssembler_pending (a : Assembler) : (setAssembler a s).pending = s.pending := rfl

/-! `confirmDiscard` changes tally, cond alone. -/

@[simp] theorem confirmDiscard_station (d : Discard) : (confirmDiscard d s).station = s.station := by simp [confirmDiscard]
@[simp] theorem confirmDiscard_arrival (d : Discard) : (confirmDiscard d s).arrival = s.arrival := by simp [confirmDiscard]
@[simp] theorem confirmDiscard_claim (d : Discard) : (confirmDiscard d s).claim = s.claim := by simp [confirmDiscard]
@[simp] theorem confirmDiscard_inquiry (d : Discard) : (confirmDiscard d s).inquiry = s.inquiry := by simp [confirmDiscard]
@[simp] theorem confirmDiscard_rules (d : Discard) : (confirmDiscard d s).rules = s.rules := by simp [confirmDiscard]
@[simp] theorem confirmDiscard_line (d : Discard) : (confirmDiscard d s).line = s.line := by simp [confirmDiscard]
@[simp] theorem confirmDiscard_access (d : Discard) : (confirmDiscard d s).access = s.access := by simp [confirmDiscard]
@[simp] theorem confirmDiscard_watch (d : Discard) : (confirmDiscard d s).watch = s.watch := by simp [confirmDiscard]
@[simp] theorem confirmDiscard_port (d : Discard) : (confirmDiscard d s).port = s.port := by simp [confirmDiscard]
@[simp] theorem confirmDiscard_clock (d : Discard) : (confirmDiscard d s).clock = s.clock := by simp [confirmDiscard]
@[simp] theorem confirmDiscard_draws (d : Discard) : (confirmDiscard d s).draws = s.draws := by simp [confirmDiscard]
@[simp] theorem confirmDiscard_pending (d : Discard) : (confirmDiscard d s).pending = s.pending := by simp [confirmDiscard]

/-! `discardRoom` changes line, tally, cond alone. -/

@[simp] theorem discardRoom_station : (discardRoom s).station = s.station := by unfold discardRoom; dsimp only; (repeat' split) <;> simp
@[simp] theorem discardRoom_arrival : (discardRoom s).arrival = s.arrival := by unfold discardRoom; dsimp only; (repeat' split) <;> simp
@[simp] theorem discardRoom_claim : (discardRoom s).claim = s.claim := by unfold discardRoom; dsimp only; (repeat' split) <;> simp
@[simp] theorem discardRoom_inquiry : (discardRoom s).inquiry = s.inquiry := by unfold discardRoom; dsimp only; (repeat' split) <;> simp
@[simp] theorem discardRoom_rules : (discardRoom s).rules = s.rules := by unfold discardRoom; dsimp only; (repeat' split) <;> simp
@[simp] theorem discardRoom_access : (discardRoom s).access = s.access := by unfold discardRoom; dsimp only; (repeat' split) <;> simp
@[simp] theorem discardRoom_watch : (discardRoom s).watch = s.watch := by unfold discardRoom; dsimp only; (repeat' split) <;> simp
@[simp] theorem discardRoom_port : (discardRoom s).port = s.port := by unfold discardRoom; dsimp only; (repeat' split) <;> simp
@[simp] theorem discardRoom_clock : (discardRoom s).clock = s.clock := by unfold discardRoom; dsimp only; (repeat' split) <;> simp
@[simp] theorem discardRoom_draws : (discardRoom s).draws = s.draws := by unfold discardRoom; dsimp only; (repeat' split) <;> simp
@[simp] theorem discardRoom_pending : (discardRoom s).pending = s.pending := by unfold discardRoom; dsimp only; (repeat' split) <;> simp

/-! `placeDiscard` changes line, tally, cond alone. -/

@[simp] theorem placeDiscard_station (d : Discard) : (placeDiscard d s).station = s.station := by simp [placeDiscard]
@[simp] theorem placeDiscard_arrival (d : Discard) : (placeDiscard d s).arrival = s.arrival := by simp [placeDiscard]
@[simp] theorem placeDiscard_claim (d : Discard) : (placeDiscard d s).claim = s.claim := by simp [placeDiscard]
@[simp] theorem placeDiscard_inquiry (d : Discard) : (placeDiscard d s).inquiry = s.inquiry := by simp [placeDiscard]
@[simp] theorem placeDiscard_rules (d : Discard) : (placeDiscard d s).rules = s.rules := by simp [placeDiscard]
@[simp] theorem placeDiscard_access (d : Discard) : (placeDiscard d s).access = s.access := by simp [placeDiscard]
@[simp] theorem placeDiscard_watch (d : Discard) : (placeDiscard d s).watch = s.watch := by simp [placeDiscard]
@[simp] theorem placeDiscard_port (d : Discard) : (placeDiscard d s).port = s.port := by simp [placeDiscard]
@[simp] theorem placeDiscard_clock (d : Discard) : (placeDiscard d s).clock = s.clock := by simp [placeDiscard]
@[simp] theorem placeDiscard_draws (d : Discard) : (placeDiscard d s).draws = s.draws := by simp [placeDiscard]
@[simp] theorem placeDiscard_pending (d : Discard) : (placeDiscard d s).pending = s.pending := by simp [placeDiscard]

/-! `readBack` changes access alone. -/

@[simp] theorem readBack_station (b : Byte) (m n : Bool) : (readBack b m n s).station = s.station := by unfold readBack; dsimp only; (repeat' split) <;> simp
@[simp] theorem readBack_tally (b : Byte) (m n : Bool) : (readBack b m n s).tally = s.tally := by unfold readBack; dsimp only; (repeat' split) <;> simp
@[simp] theorem readBack_arrival (b : Byte) (m n : Bool) : (readBack b m n s).arrival = s.arrival := by unfold readBack; dsimp only; (repeat' split) <;> simp
@[simp] theorem readBack_claim (b : Byte) (m n : Bool) : (readBack b m n s).claim = s.claim := by unfold readBack; dsimp only; (repeat' split) <;> simp
@[simp] theorem readBack_inquiry (b : Byte) (m n : Bool) : (readBack b m n s).inquiry = s.inquiry := by unfold readBack; dsimp only; (repeat' split) <;> simp
@[simp] theorem readBack_rules (b : Byte) (m n : Bool) : (readBack b m n s).rules = s.rules := by unfold readBack; dsimp only; (repeat' split) <;> simp
@[simp] theorem readBack_line (b : Byte) (m n : Bool) : (readBack b m n s).line = s.line := by unfold readBack; dsimp only; (repeat' split) <;> simp
@[simp] theorem readBack_watch (b : Byte) (m n : Bool) : (readBack b m n s).watch = s.watch := by unfold readBack; dsimp only; (repeat' split) <;> simp
@[simp] theorem readBack_cond (b : Byte) (m n : Bool) : (readBack b m n s).cond = s.cond := by unfold readBack; dsimp only; (repeat' split) <;> simp
@[simp] theorem readBack_port (b : Byte) (m n : Bool) : (readBack b m n s).port = s.port := by unfold readBack; dsimp only; (repeat' split) <;> simp
@[simp] theorem readBack_clock (b : Byte) (m n : Bool) : (readBack b m n s).clock = s.clock := by unfold readBack; dsimp only; (repeat' split) <;> simp
@[simp] theorem readBack_draws (b : Byte) (m n : Bool) : (readBack b m n s).draws = s.draws := by unfold readBack; dsimp only; (repeat' split) <;> simp
@[simp] theorem readBack_pending (b : Byte) (m n : Bool) : (readBack b m n s).pending = s.pending := by unfold readBack; dsimp only; (repeat' split) <;> simp

/-! `readBackFault` changes access alone. -/

@[simp] theorem readBackFault_station : (readBackFault s).station = s.station := by unfold readBackFault; dsimp only; (repeat' split) <;> simp
@[simp] theorem readBackFault_tally : (readBackFault s).tally = s.tally := by unfold readBackFault; dsimp only; (repeat' split) <;> simp
@[simp] theorem readBackFault_arrival : (readBackFault s).arrival = s.arrival := by unfold readBackFault; dsimp only; (repeat' split) <;> simp
@[simp] theorem readBackFault_claim : (readBackFault s).claim = s.claim := by unfold readBackFault; dsimp only; (repeat' split) <;> simp
@[simp] theorem readBackFault_inquiry : (readBackFault s).inquiry = s.inquiry := by unfold readBackFault; dsimp only; (repeat' split) <;> simp
@[simp] theorem readBackFault_rules : (readBackFault s).rules = s.rules := by unfold readBackFault; dsimp only; (repeat' split) <;> simp
@[simp] theorem readBackFault_line : (readBackFault s).line = s.line := by unfold readBackFault; dsimp only; (repeat' split) <;> simp
@[simp] theorem readBackFault_watch : (readBackFault s).watch = s.watch := by unfold readBackFault; dsimp only; (repeat' split) <;> simp
@[simp] theorem readBackFault_cond : (readBackFault s).cond = s.cond := by unfold readBackFault; dsimp only; (repeat' split) <;> simp
@[simp] theorem readBackFault_port : (readBackFault s).port = s.port := by unfold readBackFault; dsimp only; (repeat' split) <;> simp
@[simp] theorem readBackFault_clock : (readBackFault s).clock = s.clock := by unfold readBackFault; dsimp only; (repeat' split) <;> simp
@[simp] theorem readBackFault_draws : (readBackFault s).draws = s.draws := by unfold readBackFault; dsimp only; (repeat' split) <;> simp
@[simp] theorem readBackFault_pending : (readBackFault s).pending = s.pending := by unfold readBackFault; dsimp only; (repeat' split) <;> simp

/-! `takeHeader` changes line, tally, cond alone. -/

@[simp] theorem takeHeader_station (b : Byte) (n : Bool) : (takeHeader b n s).station = s.station := by unfold takeHeader; dsimp only; (repeat' split) <;> simp
@[simp] theorem takeHeader_arrival (b : Byte) (n : Bool) : (takeHeader b n s).arrival = s.arrival := by unfold takeHeader; dsimp only; (repeat' split) <;> simp
@[simp] theorem takeHeader_claim (b : Byte) (n : Bool) : (takeHeader b n s).claim = s.claim := by unfold takeHeader; dsimp only; (repeat' split) <;> simp
@[simp] theorem takeHeader_inquiry (b : Byte) (n : Bool) : (takeHeader b n s).inquiry = s.inquiry := by unfold takeHeader; dsimp only; (repeat' split) <;> simp
@[simp] theorem takeHeader_rules (b : Byte) (n : Bool) : (takeHeader b n s).rules = s.rules := by unfold takeHeader; dsimp only; (repeat' split) <;> simp
@[simp] theorem takeHeader_access (b : Byte) (n : Bool) : (takeHeader b n s).access = s.access := by unfold takeHeader; dsimp only; (repeat' split) <;> simp
@[simp] theorem takeHeader_watch (b : Byte) (n : Bool) : (takeHeader b n s).watch = s.watch := by unfold takeHeader; dsimp only; (repeat' split) <;> simp
@[simp] theorem takeHeader_port (b : Byte) (n : Bool) : (takeHeader b n s).port = s.port := by unfold takeHeader; dsimp only; (repeat' split) <;> simp
@[simp] theorem takeHeader_clock (b : Byte) (n : Bool) : (takeHeader b n s).clock = s.clock := by unfold takeHeader; dsimp only; (repeat' split) <;> simp
@[simp] theorem takeHeader_draws (b : Byte) (n : Bool) : (takeHeader b n s).draws = s.draws := by unfold takeHeader; dsimp only; (repeat' split) <;> simp
@[simp] theorem takeHeader_pending (b : Byte) (n : Bool) : (takeHeader b n s).pending = s.pending := by unfold takeHeader; dsimp only; (repeat' split) <;> simp

/-! `takePayload` changes line alone. -/

@[simp] theorem takePayload_station (b : Byte) (n : Bool) : (takePayload b n s).station = s.station := by unfold takePayload; dsimp only; (repeat' split) <;> simp
@[simp] theorem takePayload_tally (b : Byte) (n : Bool) : (takePayload b n s).tally = s.tally := by unfold takePayload; dsimp only; (repeat' split) <;> simp
@[simp] theorem takePayload_arrival (b : Byte) (n : Bool) : (takePayload b n s).arrival = s.arrival := by unfold takePayload; dsimp only; (repeat' split) <;> simp
@[simp] theorem takePayload_claim (b : Byte) (n : Bool) : (takePayload b n s).claim = s.claim := by unfold takePayload; dsimp only; (repeat' split) <;> simp
@[simp] theorem takePayload_inquiry (b : Byte) (n : Bool) : (takePayload b n s).inquiry = s.inquiry := by unfold takePayload; dsimp only; (repeat' split) <;> simp
@[simp] theorem takePayload_rules (b : Byte) (n : Bool) : (takePayload b n s).rules = s.rules := by unfold takePayload; dsimp only; (repeat' split) <;> simp
@[simp] theorem takePayload_access (b : Byte) (n : Bool) : (takePayload b n s).access = s.access := by unfold takePayload; dsimp only; (repeat' split) <;> simp
@[simp] theorem takePayload_watch (b : Byte) (n : Bool) : (takePayload b n s).watch = s.watch := by unfold takePayload; dsimp only; (repeat' split) <;> simp
@[simp] theorem takePayload_cond (b : Byte) (n : Bool) : (takePayload b n s).cond = s.cond := by unfold takePayload; dsimp only; (repeat' split) <;> simp
@[simp] theorem takePayload_port (b : Byte) (n : Bool) : (takePayload b n s).port = s.port := by unfold takePayload; dsimp only; (repeat' split) <;> simp
@[simp] theorem takePayload_clock (b : Byte) (n : Bool) : (takePayload b n s).clock = s.clock := by unfold takePayload; dsimp only; (repeat' split) <;> simp
@[simp] theorem takePayload_draws (b : Byte) (n : Bool) : (takePayload b n s).draws = s.draws := by unfold takePayload; dsimp only; (repeat' split) <;> simp
@[simp] theorem takePayload_pending (b : Byte) (n : Bool) : (takePayload b n s).pending = s.pending := by unfold takePayload; dsimp only; (repeat' split) <;> simp

/-! `storeFrame` changes line, tally, cond alone. -/

@[simp] theorem storeFrame_station (k : FrameKind) (f : RawFrame) : (storeFrame k f s).station = s.station := by unfold storeFrame; dsimp only; (repeat' split) <;> simp
@[simp] theorem storeFrame_arrival (k : FrameKind) (f : RawFrame) : (storeFrame k f s).arrival = s.arrival := by unfold storeFrame; dsimp only; (repeat' split) <;> simp
@[simp] theorem storeFrame_claim (k : FrameKind) (f : RawFrame) : (storeFrame k f s).claim = s.claim := by unfold storeFrame; dsimp only; (repeat' split) <;> simp
@[simp] theorem storeFrame_inquiry (k : FrameKind) (f : RawFrame) : (storeFrame k f s).inquiry = s.inquiry := by unfold storeFrame; dsimp only; (repeat' split) <;> simp
@[simp] theorem storeFrame_rules (k : FrameKind) (f : RawFrame) : (storeFrame k f s).rules = s.rules := by unfold storeFrame; dsimp only; (repeat' split) <;> simp
@[simp] theorem storeFrame_access (k : FrameKind) (f : RawFrame) : (storeFrame k f s).access = s.access := by unfold storeFrame; dsimp only; (repeat' split) <;> simp
@[simp] theorem storeFrame_watch (k : FrameKind) (f : RawFrame) : (storeFrame k f s).watch = s.watch := by unfold storeFrame; dsimp only; (repeat' split) <;> simp
@[simp] theorem storeFrame_port (k : FrameKind) (f : RawFrame) : (storeFrame k f s).port = s.port := by unfold storeFrame; dsimp only; (repeat' split) <;> simp
@[simp] theorem storeFrame_clock (k : FrameKind) (f : RawFrame) : (storeFrame k f s).clock = s.clock := by unfold storeFrame; dsimp only; (repeat' split) <;> simp
@[simp] theorem storeFrame_draws (k : FrameKind) (f : RawFrame) : (storeFrame k f s).draws = s.draws := by unfold storeFrame; dsimp only; (repeat' split) <;> simp
@[simp] theorem storeFrame_pending (k : FrameKind) (f : RawFrame) : (storeFrame k f s).pending = s.pending := by unfold storeFrame; dsimp only; (repeat' split) <;> simp

/-! `takeCorrection` changes arrival, cond alone. -/

@[simp] theorem takeCorrection_station (l : Lane) (f : CorrectionFields) : (takeCorrection l f s).station = s.station := by unfold takeCorrection; dsimp only; (repeat' split) <;> simp
@[simp] theorem takeCorrection_tally (l : Lane) (f : CorrectionFields) : (takeCorrection l f s).tally = s.tally := by unfold takeCorrection; dsimp only; (repeat' split) <;> simp
@[simp] theorem takeCorrection_claim (l : Lane) (f : CorrectionFields) : (takeCorrection l f s).claim = s.claim := by unfold takeCorrection; dsimp only; (repeat' split) <;> simp
@[simp] theorem takeCorrection_inquiry (l : Lane) (f : CorrectionFields) : (takeCorrection l f s).inquiry = s.inquiry := by unfold takeCorrection; dsimp only; (repeat' split) <;> simp
@[simp] theorem takeCorrection_rules (l : Lane) (f : CorrectionFields) : (takeCorrection l f s).rules = s.rules := by unfold takeCorrection; dsimp only; (repeat' split) <;> simp
@[simp] theorem takeCorrection_line (l : Lane) (f : CorrectionFields) : (takeCorrection l f s).line = s.line := by unfold takeCorrection; dsimp only; (repeat' split) <;> simp
@[simp] theorem takeCorrection_access (l : Lane) (f : CorrectionFields) : (takeCorrection l f s).access = s.access := by unfold takeCorrection; dsimp only; (repeat' split) <;> simp
@[simp] theorem takeCorrection_watch (l : Lane) (f : CorrectionFields) : (takeCorrection l f s).watch = s.watch := by unfold takeCorrection; dsimp only; (repeat' split) <;> simp
@[simp] theorem takeCorrection_port (l : Lane) (f : CorrectionFields) : (takeCorrection l f s).port = s.port := by unfold takeCorrection; dsimp only; (repeat' split) <;> simp
@[simp] theorem takeCorrection_clock (l : Lane) (f : CorrectionFields) : (takeCorrection l f s).clock = s.clock := by unfold takeCorrection; dsimp only; (repeat' split) <;> simp
@[simp] theorem takeCorrection_draws (l : Lane) (f : CorrectionFields) : (takeCorrection l f s).draws = s.draws := by unfold takeCorrection; dsimp only; (repeat' split) <;> simp
@[simp] theorem takeCorrection_pending (l : Lane) (f : CorrectionFields) : (takeCorrection l f s).pending = s.pending := by unfold takeCorrection; dsimp only; (repeat' split) <;> simp

/-! `scheduleAnswer` changes inquiry, cond alone. -/

@[simp] theorem scheduleAnswer_station (l : Lane) (k : TitleKey) (n : Option Nat) : (scheduleAnswer l k n s).station = s.station := by unfold scheduleAnswer; dsimp only; (repeat' split) <;> simp
@[simp] theorem scheduleAnswer_tally (l : Lane) (k : TitleKey) (n : Option Nat) : (scheduleAnswer l k n s).tally = s.tally := by unfold scheduleAnswer; dsimp only; (repeat' split) <;> simp
@[simp] theorem scheduleAnswer_arrival (l : Lane) (k : TitleKey) (n : Option Nat) : (scheduleAnswer l k n s).arrival = s.arrival := by unfold scheduleAnswer; dsimp only; (repeat' split) <;> simp
@[simp] theorem scheduleAnswer_claim (l : Lane) (k : TitleKey) (n : Option Nat) : (scheduleAnswer l k n s).claim = s.claim := by unfold scheduleAnswer; dsimp only; (repeat' split) <;> simp
@[simp] theorem scheduleAnswer_rules (l : Lane) (k : TitleKey) (n : Option Nat) : (scheduleAnswer l k n s).rules = s.rules := by unfold scheduleAnswer; dsimp only; (repeat' split) <;> simp
@[simp] theorem scheduleAnswer_line (l : Lane) (k : TitleKey) (n : Option Nat) : (scheduleAnswer l k n s).line = s.line := by unfold scheduleAnswer; dsimp only; (repeat' split) <;> simp
@[simp] theorem scheduleAnswer_access (l : Lane) (k : TitleKey) (n : Option Nat) : (scheduleAnswer l k n s).access = s.access := by unfold scheduleAnswer; dsimp only; (repeat' split) <;> simp
@[simp] theorem scheduleAnswer_watch (l : Lane) (k : TitleKey) (n : Option Nat) : (scheduleAnswer l k n s).watch = s.watch := by unfold scheduleAnswer; dsimp only; (repeat' split) <;> simp
@[simp] theorem scheduleAnswer_port (l : Lane) (k : TitleKey) (n : Option Nat) : (scheduleAnswer l k n s).port = s.port := by unfold scheduleAnswer; dsimp only; (repeat' split) <;> simp
@[simp] theorem scheduleAnswer_clock (l : Lane) (k : TitleKey) (n : Option Nat) : (scheduleAnswer l k n s).clock = s.clock := by unfold scheduleAnswer; dsimp only; (repeat' split) <;> simp
@[simp] theorem scheduleAnswer_draws (l : Lane) (k : TitleKey) (n : Option Nat) : (scheduleAnswer l k n s).draws = s.draws := by unfold scheduleAnswer; dsimp only; (repeat' split) <;> simp
@[simp] theorem scheduleAnswer_pending (l : Lane) (k : TitleKey) (n : Option Nat) : (scheduleAnswer l k n s).pending = s.pending := by unfold scheduleAnswer; dsimp only; (repeat' split) <;> simp

/-! `assignOrdinal` changes arrival, tally, cond alone. -/

@[simp] theorem assignOrdinal_station (q : Byte) (n : Nat) : (assignOrdinal q n s).station = s.station := by unfold assignOrdinal; dsimp only; (repeat' split) <;> simp
@[simp] theorem assignOrdinal_claim (q : Byte) (n : Nat) : (assignOrdinal q n s).claim = s.claim := by unfold assignOrdinal; dsimp only; (repeat' split) <;> simp
@[simp] theorem assignOrdinal_inquiry (q : Byte) (n : Nat) : (assignOrdinal q n s).inquiry = s.inquiry := by unfold assignOrdinal; dsimp only; (repeat' split) <;> simp
@[simp] theorem assignOrdinal_rules (q : Byte) (n : Nat) : (assignOrdinal q n s).rules = s.rules := by unfold assignOrdinal; dsimp only; (repeat' split) <;> simp
@[simp] theorem assignOrdinal_line (q : Byte) (n : Nat) : (assignOrdinal q n s).line = s.line := by unfold assignOrdinal; dsimp only; (repeat' split) <;> simp
@[simp] theorem assignOrdinal_access (q : Byte) (n : Nat) : (assignOrdinal q n s).access = s.access := by unfold assignOrdinal; dsimp only; (repeat' split) <;> simp
@[simp] theorem assignOrdinal_watch (q : Byte) (n : Nat) : (assignOrdinal q n s).watch = s.watch := by unfold assignOrdinal; dsimp only; (repeat' split) <;> simp
@[simp] theorem assignOrdinal_port (q : Byte) (n : Nat) : (assignOrdinal q n s).port = s.port := by unfold assignOrdinal; dsimp only; (repeat' split) <;> simp
@[simp] theorem assignOrdinal_clock (q : Byte) (n : Nat) : (assignOrdinal q n s).clock = s.clock := by unfold assignOrdinal; dsimp only; (repeat' split) <;> simp
@[simp] theorem assignOrdinal_draws (q : Byte) (n : Nat) : (assignOrdinal q n s).draws = s.draws := by unfold assignOrdinal; dsimp only; (repeat' split) <;> simp
@[simp] theorem assignOrdinal_pending (q : Byte) (n : Nat) : (assignOrdinal q n s).pending = s.pending := by unfold assignOrdinal; dsimp only; (repeat' split) <;> simp

/-! `releaseHeld` changes claim, access alone. -/

@[simp] theorem releaseHeld_station : (releaseHeld s).station = s.station := rfl
@[simp] theorem releaseHeld_tally : (releaseHeld s).tally = s.tally := rfl
@[simp] theorem releaseHeld_arrival : (releaseHeld s).arrival = s.arrival := rfl
@[simp] theorem releaseHeld_inquiry : (releaseHeld s).inquiry = s.inquiry := rfl
@[simp] theorem releaseHeld_rules : (releaseHeld s).rules = s.rules := rfl
@[simp] theorem releaseHeld_line : (releaseHeld s).line = s.line := rfl
@[simp] theorem releaseHeld_watch : (releaseHeld s).watch = s.watch := rfl
@[simp] theorem releaseHeld_cond : (releaseHeld s).cond = s.cond := rfl
@[simp] theorem releaseHeld_port : (releaseHeld s).port = s.port := rfl
@[simp] theorem releaseHeld_clock : (releaseHeld s).clock = s.clock := rfl
@[simp] theorem releaseHeld_draws : (releaseHeld s).draws = s.draws := rfl
@[simp] theorem releaseHeld_pending : (releaseHeld s).pending = s.pending := rfl

/-! `beginSending` changes access alone. -/

@[simp] theorem beginSending_station (e : TxEntry) (k : FrameKind) (p : List Byte) : (beginSending e k p s).station = s.station := rfl
@[simp] theorem beginSending_tally (e : TxEntry) (k : FrameKind) (p : List Byte) : (beginSending e k p s).tally = s.tally := rfl
@[simp] theorem beginSending_arrival (e : TxEntry) (k : FrameKind) (p : List Byte) : (beginSending e k p s).arrival = s.arrival := rfl
@[simp] theorem beginSending_claim (e : TxEntry) (k : FrameKind) (p : List Byte) : (beginSending e k p s).claim = s.claim := rfl
@[simp] theorem beginSending_inquiry (e : TxEntry) (k : FrameKind) (p : List Byte) : (beginSending e k p s).inquiry = s.inquiry := rfl
@[simp] theorem beginSending_rules (e : TxEntry) (k : FrameKind) (p : List Byte) : (beginSending e k p s).rules = s.rules := rfl
@[simp] theorem beginSending_line (e : TxEntry) (k : FrameKind) (p : List Byte) : (beginSending e k p s).line = s.line := rfl
@[simp] theorem beginSending_watch (e : TxEntry) (k : FrameKind) (p : List Byte) : (beginSending e k p s).watch = s.watch := rfl
@[simp] theorem beginSending_cond (e : TxEntry) (k : FrameKind) (p : List Byte) : (beginSending e k p s).cond = s.cond := rfl
@[simp] theorem beginSending_port (e : TxEntry) (k : FrameKind) (p : List Byte) : (beginSending e k p s).port = s.port := rfl
@[simp] theorem beginSending_clock (e : TxEntry) (k : FrameKind) (p : List Byte) : (beginSending e k p s).clock = s.clock := rfl
@[simp] theorem beginSending_draws (e : TxEntry) (k : FrameKind) (p : List Byte) : (beginSending e k p s).draws = s.draws := rfl
@[simp] theorem beginSending_pending (e : TxEntry) (k : FrameKind) (p : List Byte) : (beginSending e k p s).pending = s.pending := rfl

/-! `contention` changes cond alone. -/

@[simp] theorem contention_station (kd : FrameKind) (k : Option TitleKey) : (contention kd k s).station = s.station := by simp [contention]
@[simp] theorem contention_tally (kd : FrameKind) (k : Option TitleKey) : (contention kd k s).tally = s.tally := by simp [contention]
@[simp] theorem contention_arrival (kd : FrameKind) (k : Option TitleKey) : (contention kd k s).arrival = s.arrival := by simp [contention]
@[simp] theorem contention_claim (kd : FrameKind) (k : Option TitleKey) : (contention kd k s).claim = s.claim := by simp [contention]
@[simp] theorem contention_inquiry (kd : FrameKind) (k : Option TitleKey) : (contention kd k s).inquiry = s.inquiry := by simp [contention]
@[simp] theorem contention_rules (kd : FrameKind) (k : Option TitleKey) : (contention kd k s).rules = s.rules := by simp [contention]
@[simp] theorem contention_line (kd : FrameKind) (k : Option TitleKey) : (contention kd k s).line = s.line := by simp [contention]
@[simp] theorem contention_access (kd : FrameKind) (k : Option TitleKey) : (contention kd k s).access = s.access := by simp [contention]
@[simp] theorem contention_watch (kd : FrameKind) (k : Option TitleKey) : (contention kd k s).watch = s.watch := by simp [contention]
@[simp] theorem contention_port (kd : FrameKind) (k : Option TitleKey) : (contention kd k s).port = s.port := by simp [contention]
@[simp] theorem contention_clock (kd : FrameKind) (k : Option TitleKey) : (contention kd k s).clock = s.clock := by simp [contention]
@[simp] theorem contention_draws (kd : FrameKind) (k : Option TitleKey) : (contention kd k s).draws = s.draws := by simp [contention]
@[simp] theorem contention_pending (kd : FrameKind) (k : Option TitleKey) : (contention kd k s).pending = s.pending := by simp [contention]

/-! `abandon` changes arrival, tally, cond, inquiry, access, claim alone. -/

@[simp] theorem abandon_station (o : Owner) : (abandon o s).station = s.station := by unfold abandon; dsimp only; (repeat' split) <;> simp
@[simp] theorem abandon_rules (o : Owner) : (abandon o s).rules = s.rules := by unfold abandon; dsimp only; (repeat' split) <;> simp
@[simp] theorem abandon_line (o : Owner) : (abandon o s).line = s.line := by unfold abandon; dsimp only; (repeat' split) <;> simp
@[simp] theorem abandon_watch (o : Owner) : (abandon o s).watch = s.watch := by unfold abandon; dsimp only; (repeat' split) <;> simp
@[simp] theorem abandon_port (o : Owner) : (abandon o s).port = s.port := by unfold abandon; dsimp only; (repeat' split) <;> simp
@[simp] theorem abandon_clock (o : Owner) : (abandon o s).clock = s.clock := by unfold abandon; dsimp only; (repeat' split) <;> simp
@[simp] theorem abandon_draws (o : Owner) : (abandon o s).draws = s.draws := by unfold abandon; dsimp only; (repeat' split) <;> simp
@[simp] theorem abandon_pending (o : Owner) : (abandon o s).pending = s.pending := by unfold abandon; dsimp only; (repeat' split) <;> simp

/-! `returnEntry` changes arrival, inquiry, access alone. -/

@[simp] theorem returnEntry_station (o : Owner) : (returnEntry o s).station = s.station := by unfold returnEntry; split <;> simp
@[simp] theorem returnEntry_tally (o : Owner) : (returnEntry o s).tally = s.tally := by unfold returnEntry; split <;> simp
@[simp] theorem returnEntry_claim (o : Owner) : (returnEntry o s).claim = s.claim := by unfold returnEntry; split <;> simp
@[simp] theorem returnEntry_rules (o : Owner) : (returnEntry o s).rules = s.rules := by unfold returnEntry; split <;> simp
@[simp] theorem returnEntry_line (o : Owner) : (returnEntry o s).line = s.line := by unfold returnEntry; split <;> simp
@[simp] theorem returnEntry_watch (o : Owner) : (returnEntry o s).watch = s.watch := by unfold returnEntry; split <;> simp
@[simp] theorem returnEntry_cond (o : Owner) : (returnEntry o s).cond = s.cond := by unfold returnEntry; split <;> simp
@[simp] theorem returnEntry_port (o : Owner) : (returnEntry o s).port = s.port := by unfold returnEntry; split <;> simp
@[simp] theorem returnEntry_clock (o : Owner) : (returnEntry o s).clock = s.clock := by unfold returnEntry; split <;> simp
@[simp] theorem returnEntry_draws (o : Owner) : (returnEntry o s).draws = s.draws := by unfold returnEntry; split <;> simp
@[simp] theorem returnEntry_pending (o : Owner) : (returnEntry o s).pending = s.pending := by unfold returnEntry; split <;> simp

/-! `endAttempt` changes arrival, tally, cond, inquiry, access, claim alone. -/

@[simp] theorem endAttempt_station (e : TxEntry) : (endAttempt e s).station = s.station := by unfold endAttempt; dsimp only; (repeat' split) <;> simp
@[simp] theorem endAttempt_rules (e : TxEntry) : (endAttempt e s).rules = s.rules := by unfold endAttempt; dsimp only; (repeat' split) <;> simp
@[simp] theorem endAttempt_line (e : TxEntry) : (endAttempt e s).line = s.line := by unfold endAttempt; dsimp only; (repeat' split) <;> simp
@[simp] theorem endAttempt_watch (e : TxEntry) : (endAttempt e s).watch = s.watch := by unfold endAttempt; dsimp only; (repeat' split) <;> simp
@[simp] theorem endAttempt_port (e : TxEntry) : (endAttempt e s).port = s.port := by unfold endAttempt; dsimp only; (repeat' split) <;> simp
@[simp] theorem endAttempt_clock (e : TxEntry) : (endAttempt e s).clock = s.clock := by unfold endAttempt; dsimp only; (repeat' split) <;> simp
@[simp] theorem endAttempt_draws (e : TxEntry) : (endAttempt e s).draws = s.draws := by unfold endAttempt; dsimp only; (repeat' split) <;> simp
@[simp] theorem endAttempt_pending (e : TxEntry) : (endAttempt e s).pending = s.pending := by unfold endAttempt; dsimp only; (repeat' split) <;> simp

/-! `replyDetail` changes port, draws alone. -/

@[simp] theorem replyDetail_station (r : Request) (n : Byte) (d : Detail) : (replyDetail r n d s).station = s.station := rfl
@[simp] theorem replyDetail_tally (r : Request) (n : Byte) (d : Detail) : (replyDetail r n d s).tally = s.tally := rfl
@[simp] theorem replyDetail_arrival (r : Request) (n : Byte) (d : Detail) : (replyDetail r n d s).arrival = s.arrival := rfl
@[simp] theorem replyDetail_claim (r : Request) (n : Byte) (d : Detail) : (replyDetail r n d s).claim = s.claim := rfl
@[simp] theorem replyDetail_inquiry (r : Request) (n : Byte) (d : Detail) : (replyDetail r n d s).inquiry = s.inquiry := rfl
@[simp] theorem replyDetail_rules (r : Request) (n : Byte) (d : Detail) : (replyDetail r n d s).rules = s.rules := rfl
@[simp] theorem replyDetail_line (r : Request) (n : Byte) (d : Detail) : (replyDetail r n d s).line = s.line := rfl
@[simp] theorem replyDetail_access (r : Request) (n : Byte) (d : Detail) : (replyDetail r n d s).access = s.access := rfl
@[simp] theorem replyDetail_watch (r : Request) (n : Byte) (d : Detail) : (replyDetail r n d s).watch = s.watch := rfl
@[simp] theorem replyDetail_cond (r : Request) (n : Byte) (d : Detail) : (replyDetail r n d s).cond = s.cond := rfl
@[simp] theorem replyDetail_clock (r : Request) (n : Byte) (d : Detail) : (replyDetail r n d s).clock = s.clock := rfl
@[simp] theorem replyDetail_pending (r : Request) (n : Byte) (d : Detail) : (replyDetail r n d s).pending = s.pending := rfl

/-! `placeGreeting` changes access alone. -/

@[simp] theorem placeGreeting_station : (placeGreeting s).station = s.station := rfl
@[simp] theorem placeGreeting_tally : (placeGreeting s).tally = s.tally := rfl
@[simp] theorem placeGreeting_arrival : (placeGreeting s).arrival = s.arrival := rfl
@[simp] theorem placeGreeting_claim : (placeGreeting s).claim = s.claim := rfl
@[simp] theorem placeGreeting_inquiry : (placeGreeting s).inquiry = s.inquiry := rfl
@[simp] theorem placeGreeting_rules : (placeGreeting s).rules = s.rules := rfl
@[simp] theorem placeGreeting_line : (placeGreeting s).line = s.line := rfl
@[simp] theorem placeGreeting_watch : (placeGreeting s).watch = s.watch := rfl
@[simp] theorem placeGreeting_cond : (placeGreeting s).cond = s.cond := rfl
@[simp] theorem placeGreeting_port : (placeGreeting s).port = s.port := rfl
@[simp] theorem placeGreeting_clock : (placeGreeting s).clock = s.clock := rfl
@[simp] theorem placeGreeting_draws : (placeGreeting s).draws = s.draws := rfl
@[simp] theorem placeGreeting_pending : (placeGreeting s).pending = s.pending := rfl

/-! `enterState` changes station alone. -/

@[simp] theorem enterState_tally (st : StationState) : (enterState st s).tally = s.tally := rfl
@[simp] theorem enterState_arrival (st : StationState) : (enterState st s).arrival = s.arrival := rfl
@[simp] theorem enterState_claim (st : StationState) : (enterState st s).claim = s.claim := rfl
@[simp] theorem enterState_inquiry (st : StationState) : (enterState st s).inquiry = s.inquiry := rfl
@[simp] theorem enterState_rules (st : StationState) : (enterState st s).rules = s.rules := rfl
@[simp] theorem enterState_line (st : StationState) : (enterState st s).line = s.line := rfl
@[simp] theorem enterState_access (st : StationState) : (enterState st s).access = s.access := rfl
@[simp] theorem enterState_watch (st : StationState) : (enterState st s).watch = s.watch := rfl
@[simp] theorem enterState_cond (st : StationState) : (enterState st s).cond = s.cond := rfl
@[simp] theorem enterState_port (st : StationState) : (enterState st s).port = s.port := rfl
@[simp] theorem enterState_clock (st : StationState) : (enterState st s).clock = s.clock := rfl
@[simp] theorem enterState_draws (st : StationState) : (enterState st s).draws = s.draws := rfl
@[simp] theorem enterState_pending (st : StationState) : (enterState st s).pending = s.pending := rfl

/-! `requeueGreeting` changes access alone. -/

@[simp] theorem requeueGreeting_station : (requeueGreeting s).station = s.station := by unfold requeueGreeting; split <;> simp
@[simp] theorem requeueGreeting_tally : (requeueGreeting s).tally = s.tally := by unfold requeueGreeting; split <;> simp
@[simp] theorem requeueGreeting_arrival : (requeueGreeting s).arrival = s.arrival := by unfold requeueGreeting; split <;> simp
@[simp] theorem requeueGreeting_claim : (requeueGreeting s).claim = s.claim := by unfold requeueGreeting; split <;> simp
@[simp] theorem requeueGreeting_inquiry : (requeueGreeting s).inquiry = s.inquiry := by unfold requeueGreeting; split <;> simp
@[simp] theorem requeueGreeting_rules : (requeueGreeting s).rules = s.rules := by unfold requeueGreeting; split <;> simp
@[simp] theorem requeueGreeting_line : (requeueGreeting s).line = s.line := by unfold requeueGreeting; split <;> simp
@[simp] theorem requeueGreeting_watch : (requeueGreeting s).watch = s.watch := by unfold requeueGreeting; split <;> simp
@[simp] theorem requeueGreeting_cond : (requeueGreeting s).cond = s.cond := by unfold requeueGreeting; split <;> simp
@[simp] theorem requeueGreeting_port : (requeueGreeting s).port = s.port := by unfold requeueGreeting; split <;> simp
@[simp] theorem requeueGreeting_clock : (requeueGreeting s).clock = s.clock := by unfold requeueGreeting; split <;> simp
@[simp] theorem requeueGreeting_draws : (requeueGreeting s).draws = s.draws := by unfold requeueGreeting; split <;> simp
@[simp] theorem requeueGreeting_pending : (requeueGreeting s).pending = s.pending := by unfold requeueGreeting; split <;> simp

/-! `appendItem` changes arrival alone. -/

@[simp] theorem appendItem_station (it : Item) : (appendItem it s).station = s.station := rfl
@[simp] theorem appendItem_tally (it : Item) : (appendItem it s).tally = s.tally := rfl
@[simp] theorem appendItem_claim (it : Item) : (appendItem it s).claim = s.claim := rfl
@[simp] theorem appendItem_inquiry (it : Item) : (appendItem it s).inquiry = s.inquiry := rfl
@[simp] theorem appendItem_rules (it : Item) : (appendItem it s).rules = s.rules := rfl
@[simp] theorem appendItem_line (it : Item) : (appendItem it s).line = s.line := rfl
@[simp] theorem appendItem_access (it : Item) : (appendItem it s).access = s.access := rfl
@[simp] theorem appendItem_watch (it : Item) : (appendItem it s).watch = s.watch := rfl
@[simp] theorem appendItem_cond (it : Item) : (appendItem it s).cond = s.cond := rfl
@[simp] theorem appendItem_port (it : Item) : (appendItem it s).port = s.port := rfl
@[simp] theorem appendItem_clock (it : Item) : (appendItem it s).clock = s.clock := rfl
@[simp] theorem appendItem_draws (it : Item) : (appendItem it s).draws = s.draws := rfl
@[simp] theorem appendItem_pending (it : Item) : (appendItem it s).pending = s.pending := rfl

/-! `configureReply` changes port alone. -/

@[simp] theorem configureReply_station (r : Request) (c : Bool) (bs : List Byte) : (configureReply r c bs s).station = s.station := rfl
@[simp] theorem configureReply_tally (r : Request) (c : Bool) (bs : List Byte) : (configureReply r c bs s).tally = s.tally := rfl
@[simp] theorem configureReply_arrival (r : Request) (c : Bool) (bs : List Byte) : (configureReply r c bs s).arrival = s.arrival := rfl
@[simp] theorem configureReply_claim (r : Request) (c : Bool) (bs : List Byte) : (configureReply r c bs s).claim = s.claim := rfl
@[simp] theorem configureReply_inquiry (r : Request) (c : Bool) (bs : List Byte) : (configureReply r c bs s).inquiry = s.inquiry := rfl
@[simp] theorem configureReply_rules (r : Request) (c : Bool) (bs : List Byte) : (configureReply r c bs s).rules = s.rules := rfl
@[simp] theorem configureReply_line (r : Request) (c : Bool) (bs : List Byte) : (configureReply r c bs s).line = s.line := rfl
@[simp] theorem configureReply_access (r : Request) (c : Bool) (bs : List Byte) : (configureReply r c bs s).access = s.access := rfl
@[simp] theorem configureReply_watch (r : Request) (c : Bool) (bs : List Byte) : (configureReply r c bs s).watch = s.watch := rfl
@[simp] theorem configureReply_cond (r : Request) (c : Bool) (bs : List Byte) : (configureReply r c bs s).cond = s.cond := rfl
@[simp] theorem configureReply_clock (r : Request) (c : Bool) (bs : List Byte) : (configureReply r c bs s).clock = s.clock := rfl
@[simp] theorem configureReply_draws (r : Request) (c : Bool) (bs : List Byte) : (configureReply r c bs s).draws = s.draws := rfl
@[simp] theorem configureReply_pending (r : Request) (c : Bool) (bs : List Byte) : (configureReply r c bs s).pending = s.pending := rfl

/-! `expireDeadline` changes arrival, tally, cond, inquiry, access alone. -/

@[simp] theorem expireDeadline_station (it : Item) : (expireDeadline it s).station = s.station := by unfold expireDeadline; split <;> simp
@[simp] theorem expireDeadline_claim (it : Item) : (expireDeadline it s).claim = s.claim := by unfold expireDeadline; split <;> simp
@[simp] theorem expireDeadline_rules (it : Item) : (expireDeadline it s).rules = s.rules := by unfold expireDeadline; split <;> simp
@[simp] theorem expireDeadline_line (it : Item) : (expireDeadline it s).line = s.line := by unfold expireDeadline; split <;> simp
@[simp] theorem expireDeadline_watch (it : Item) : (expireDeadline it s).watch = s.watch := by unfold expireDeadline; split <;> simp
@[simp] theorem expireDeadline_port (it : Item) : (expireDeadline it s).port = s.port := by unfold expireDeadline; split <;> simp
@[simp] theorem expireDeadline_clock (it : Item) : (expireDeadline it s).clock = s.clock := by unfold expireDeadline; split <;> simp
@[simp] theorem expireDeadline_draws (it : Item) : (expireDeadline it s).draws = s.draws := by unfold expireDeadline; split <;> simp
@[simp] theorem expireDeadline_pending (it : Item) : (expireDeadline it s).pending = s.pending := by unfold expireDeadline; split <;> simp

/-! `handlePeerClaim` changes station, access, arrival, tally, cond, claim, inquiry, line, port, draws, watch alone. -/

@[simp] theorem handlePeerClaim_rules (f : StoredFrame) : (handlePeerClaim f s).rules = s.rules := by unfold handlePeerClaim; dsimp only; (repeat' split) <;> simp
@[simp] theorem handlePeerClaim_clock (f : StoredFrame) : (handlePeerClaim f s).clock = s.clock := by unfold handlePeerClaim; dsimp only; (repeat' split) <;> simp
@[simp] theorem handlePeerClaim_pending (f : StoredFrame) : (handlePeerClaim f s).pending = s.pending := by unfold handlePeerClaim; dsimp only; (repeat' split) <;> simp

/-! `handlePeerCorrection` changes station, access, arrival, tally, cond, claim, inquiry, line, port, draws, watch alone. -/

@[simp] theorem handlePeerCorrection_rules (f : StoredFrame) : (handlePeerCorrection f s).rules = s.rules := by unfold handlePeerCorrection; dsimp only; (repeat' split) <;> simp
@[simp] theorem handlePeerCorrection_clock (f : StoredFrame) : (handlePeerCorrection f s).clock = s.clock := by unfold handlePeerCorrection; dsimp only; (repeat' split) <;> simp
@[simp] theorem handlePeerCorrection_pending (f : StoredFrame) : (handlePeerCorrection f s).pending = s.pending := by unfold handlePeerCorrection; dsimp only; (repeat' split) <;> simp

/-! `handleOwnCorrection` changes station, access, arrival, tally, cond, claim, inquiry, line, port, draws, watch alone. -/

@[simp] theorem handleOwnCorrection_rules (f : StoredFrame) : (handleOwnCorrection f s).rules = s.rules := by unfold handleOwnCorrection; dsimp only; (repeat' split) <;> simp
@[simp] theorem handleOwnCorrection_clock (f : StoredFrame) : (handleOwnCorrection f s).clock = s.clock := by unfold handleOwnCorrection; dsimp only; (repeat' split) <;> simp
@[simp] theorem handleOwnCorrection_pending (f : StoredFrame) : (handleOwnCorrection f s).pending = s.pending := by unfold handleOwnCorrection; dsimp only; (repeat' split) <;> simp

/-! `handlePeerAnswer` changes station, access, arrival, tally, cond, claim, inquiry, line, port, draws, watch alone. -/

@[simp] theorem handlePeerAnswer_rules (f : StoredFrame) : (handlePeerAnswer f s).rules = s.rules := by unfold handlePeerAnswer; dsimp only; (repeat' split) <;> simp
@[simp] theorem handlePeerAnswer_clock (f : StoredFrame) : (handlePeerAnswer f s).clock = s.clock := by unfold handlePeerAnswer; dsimp only; (repeat' split) <;> simp
@[simp] theorem handlePeerAnswer_pending (f : StoredFrame) : (handlePeerAnswer f s).pending = s.pending := by unfold handlePeerAnswer; dsimp only; (repeat' split) <;> simp

/-! `handleOwnAnswer` changes station, access, arrival, tally, cond, claim, inquiry, line, port, draws, watch alone. -/

@[simp] theorem handleOwnAnswer_rules (f : StoredFrame) : (handleOwnAnswer f s).rules = s.rules := by unfold handleOwnAnswer; dsimp only; (repeat' split) <;> simp
@[simp] theorem handleOwnAnswer_clock (f : StoredFrame) : (handleOwnAnswer f s).clock = s.clock := by unfold handleOwnAnswer; dsimp only; (repeat' split) <;> simp
@[simp] theorem handleOwnAnswer_pending (f : StoredFrame) : (handleOwnAnswer f s).pending = s.pending := by unfold handleOwnAnswer; dsimp only; (repeat' split) <;> simp

/-! `handlePeerInquiry` changes station, access, arrival, tally, cond, claim, inquiry, line, port, draws alone. -/

@[simp] theorem handlePeerInquiry_rules (f : StoredFrame) : (handlePeerInquiry f s).rules = s.rules := by unfold handlePeerInquiry; dsimp only; (repeat' split) <;> simp
@[simp] theorem handlePeerInquiry_watch (f : StoredFrame) : (handlePeerInquiry f s).watch = s.watch := by unfold handlePeerInquiry; dsimp only; (repeat' split) <;> simp
@[simp] theorem handlePeerInquiry_clock (f : StoredFrame) : (handlePeerInquiry f s).clock = s.clock := by unfold handlePeerInquiry; dsimp only; (repeat' split) <;> simp
@[simp] theorem handlePeerInquiry_pending (f : StoredFrame) : (handlePeerInquiry f s).pending = s.pending := by unfold handlePeerInquiry; dsimp only; (repeat' split) <;> simp

/-! `handlePeerGreeting` changes claim, cond alone. -/

@[simp] theorem handlePeerGreeting_station (f : StoredFrame) : (handlePeerGreeting f s).station = s.station := by simp [handlePeerGreeting]
@[simp] theorem handlePeerGreeting_tally (f : StoredFrame) : (handlePeerGreeting f s).tally = s.tally := by simp [handlePeerGreeting]
@[simp] theorem handlePeerGreeting_arrival (f : StoredFrame) : (handlePeerGreeting f s).arrival = s.arrival := by simp [handlePeerGreeting]
@[simp] theorem handlePeerGreeting_inquiry (f : StoredFrame) : (handlePeerGreeting f s).inquiry = s.inquiry := by simp [handlePeerGreeting]
@[simp] theorem handlePeerGreeting_rules (f : StoredFrame) : (handlePeerGreeting f s).rules = s.rules := by simp [handlePeerGreeting]
@[simp] theorem handlePeerGreeting_line (f : StoredFrame) : (handlePeerGreeting f s).line = s.line := by simp [handlePeerGreeting]
@[simp] theorem handlePeerGreeting_access (f : StoredFrame) : (handlePeerGreeting f s).access = s.access := by simp [handlePeerGreeting]
@[simp] theorem handlePeerGreeting_watch (f : StoredFrame) : (handlePeerGreeting f s).watch = s.watch := by simp [handlePeerGreeting]
@[simp] theorem handlePeerGreeting_port (f : StoredFrame) : (handlePeerGreeting f s).port = s.port := by simp [handlePeerGreeting]
@[simp] theorem handlePeerGreeting_clock (f : StoredFrame) : (handlePeerGreeting f s).clock = s.clock := by simp [handlePeerGreeting]
@[simp] theorem handlePeerGreeting_draws (f : StoredFrame) : (handlePeerGreeting f s).draws = s.draws := by simp [handlePeerGreeting]
@[simp] theorem handlePeerGreeting_pending (f : StoredFrame) : (handlePeerGreeting f s).pending = s.pending := by simp [handlePeerGreeting]

/-! `handleOwnClaim` changes station, access, arrival, tally, cond, claim, inquiry, line, port, draws, watch alone. -/

@[simp] theorem handleOwnClaim_rules (f : StoredFrame) : (handleOwnClaim f s).rules = s.rules := by unfold handleOwnClaim; dsimp only; (repeat' split) <;> simp
@[simp] theorem handleOwnClaim_clock (f : StoredFrame) : (handleOwnClaim f s).clock = s.clock := by unfold handleOwnClaim; dsimp only; (repeat' split) <;> simp
@[simp] theorem handleOwnClaim_pending (f : StoredFrame) : (handleOwnClaim f s).pending = s.pending := by unfold handleOwnClaim; dsimp only; (repeat' split) <;> simp

/-! `handleOwnInquiry` changes inquiry alone. -/

@[simp] theorem handleOwnInquiry_station (f : StoredFrame) : (handleOwnInquiry f s).station = s.station := rfl
@[simp] theorem handleOwnInquiry_tally (f : StoredFrame) : (handleOwnInquiry f s).tally = s.tally := rfl
@[simp] theorem handleOwnInquiry_arrival (f : StoredFrame) : (handleOwnInquiry f s).arrival = s.arrival := rfl
@[simp] theorem handleOwnInquiry_claim (f : StoredFrame) : (handleOwnInquiry f s).claim = s.claim := rfl
@[simp] theorem handleOwnInquiry_rules (f : StoredFrame) : (handleOwnInquiry f s).rules = s.rules := rfl
@[simp] theorem handleOwnInquiry_line (f : StoredFrame) : (handleOwnInquiry f s).line = s.line := rfl
@[simp] theorem handleOwnInquiry_access (f : StoredFrame) : (handleOwnInquiry f s).access = s.access := rfl
@[simp] theorem handleOwnInquiry_watch (f : StoredFrame) : (handleOwnInquiry f s).watch = s.watch := rfl
@[simp] theorem handleOwnInquiry_cond (f : StoredFrame) : (handleOwnInquiry f s).cond = s.cond := rfl
@[simp] theorem handleOwnInquiry_port (f : StoredFrame) : (handleOwnInquiry f s).port = s.port := rfl
@[simp] theorem handleOwnInquiry_clock (f : StoredFrame) : (handleOwnInquiry f s).clock = s.clock := rfl
@[simp] theorem handleOwnInquiry_draws (f : StoredFrame) : (handleOwnInquiry f s).draws = s.draws := rfl
@[simp] theorem handleOwnInquiry_pending (f : StoredFrame) : (handleOwnInquiry f s).pending = s.pending := rfl

/-! `handleOwnGreeting` changes station, claim, access alone. -/

@[simp] theorem handleOwnGreeting_tally (f : StoredFrame) : (handleOwnGreeting f s).tally = s.tally := by unfold handleOwnGreeting; dsimp only; (repeat' split) <;> simp
@[simp] theorem handleOwnGreeting_arrival (f : StoredFrame) : (handleOwnGreeting f s).arrival = s.arrival := by unfold handleOwnGreeting; dsimp only; (repeat' split) <;> simp
@[simp] theorem handleOwnGreeting_inquiry (f : StoredFrame) : (handleOwnGreeting f s).inquiry = s.inquiry := by unfold handleOwnGreeting; dsimp only; (repeat' split) <;> simp
@[simp] theorem handleOwnGreeting_rules (f : StoredFrame) : (handleOwnGreeting f s).rules = s.rules := by unfold handleOwnGreeting; dsimp only; (repeat' split) <;> simp
@[simp] theorem handleOwnGreeting_line (f : StoredFrame) : (handleOwnGreeting f s).line = s.line := by unfold handleOwnGreeting; dsimp only; (repeat' split) <;> simp
@[simp] theorem handleOwnGreeting_watch (f : StoredFrame) : (handleOwnGreeting f s).watch = s.watch := by unfold handleOwnGreeting; dsimp only; (repeat' split) <;> simp
@[simp] theorem handleOwnGreeting_cond (f : StoredFrame) : (handleOwnGreeting f s).cond = s.cond := by unfold handleOwnGreeting; dsimp only; (repeat' split) <;> simp
@[simp] theorem handleOwnGreeting_port (f : StoredFrame) : (handleOwnGreeting f s).port = s.port := by unfold handleOwnGreeting; dsimp only; (repeat' split) <;> simp
@[simp] theorem handleOwnGreeting_clock (f : StoredFrame) : (handleOwnGreeting f s).clock = s.clock := by unfold handleOwnGreeting; dsimp only; (repeat' split) <;> simp
@[simp] theorem handleOwnGreeting_draws (f : StoredFrame) : (handleOwnGreeting f s).draws = s.draws := by unfold handleOwnGreeting; dsimp only; (repeat' split) <;> simp
@[simp] theorem handleOwnGreeting_pending (f : StoredFrame) : (handleOwnGreeting f s).pending = s.pending := by unfold handleOwnGreeting; dsimp only; (repeat' split) <;> simp

/-! `tickTimers` changes arrival, inquiry, claim alone. -/

@[simp] theorem tickTimers_station : (tickTimers s).station = s.station := by unfold tickTimers; split <;> simp
@[simp] theorem tickTimers_tally : (tickTimers s).tally = s.tally := by unfold tickTimers; split <;> simp
@[simp] theorem tickTimers_rules : (tickTimers s).rules = s.rules := by unfold tickTimers; split <;> simp
@[simp] theorem tickTimers_line : (tickTimers s).line = s.line := by unfold tickTimers; split <;> simp
@[simp] theorem tickTimers_access : (tickTimers s).access = s.access := by unfold tickTimers; split <;> simp
@[simp] theorem tickTimers_watch : (tickTimers s).watch = s.watch := by unfold tickTimers; split <;> simp
@[simp] theorem tickTimers_cond : (tickTimers s).cond = s.cond := by unfold tickTimers; split <;> simp
@[simp] theorem tickTimers_port : (tickTimers s).port = s.port := by unfold tickTimers; split <;> simp
@[simp] theorem tickTimers_clock : (tickTimers s).clock = s.clock := by unfold tickTimers; split <;> simp
@[simp] theorem tickTimers_draws : (tickTimers s).draws = s.draws := by unfold tickTimers; split <;> simp
@[simp] theorem tickTimers_pending : (tickTimers s).pending = s.pending := by unfold tickTimers; split <;> simp

/-! `tickLine` changes line, access alone. -/

@[simp] theorem tickLine_station : (tickLine s).station = s.station := rfl
@[simp] theorem tickLine_tally : (tickLine s).tally = s.tally := rfl
@[simp] theorem tickLine_arrival : (tickLine s).arrival = s.arrival := rfl
@[simp] theorem tickLine_claim : (tickLine s).claim = s.claim := rfl
@[simp] theorem tickLine_inquiry : (tickLine s).inquiry = s.inquiry := rfl
@[simp] theorem tickLine_rules : (tickLine s).rules = s.rules := rfl
@[simp] theorem tickLine_watch : (tickLine s).watch = s.watch := rfl
@[simp] theorem tickLine_cond : (tickLine s).cond = s.cond := rfl
@[simp] theorem tickLine_port : (tickLine s).port = s.port := rfl
@[simp] theorem tickLine_clock : (tickLine s).clock = s.clock := rfl
@[simp] theorem tickLine_draws : (tickLine s).draws = s.draws := rfl
@[simp] theorem tickLine_pending : (tickLine s).pending = s.pending := rfl

/-! `tickPort` changes port alone. -/

@[simp] theorem tickPort_station : (tickPort s).station = s.station := rfl
@[simp] theorem tickPort_tally : (tickPort s).tally = s.tally := rfl
@[simp] theorem tickPort_arrival : (tickPort s).arrival = s.arrival := rfl
@[simp] theorem tickPort_claim : (tickPort s).claim = s.claim := rfl
@[simp] theorem tickPort_inquiry : (tickPort s).inquiry = s.inquiry := rfl
@[simp] theorem tickPort_rules : (tickPort s).rules = s.rules := rfl
@[simp] theorem tickPort_line : (tickPort s).line = s.line := rfl
@[simp] theorem tickPort_access : (tickPort s).access = s.access := rfl
@[simp] theorem tickPort_watch : (tickPort s).watch = s.watch := rfl
@[simp] theorem tickPort_cond : (tickPort s).cond = s.cond := rfl
@[simp] theorem tickPort_clock : (tickPort s).clock = s.clock := rfl
@[simp] theorem tickPort_draws : (tickPort s).draws = s.draws := rfl
@[simp] theorem tickPort_pending : (tickPort s).pending = s.pending := rfl

/-! `tickPhases` changes clock alone. -/

@[simp] theorem tickPhases_station : (tickPhases s).station = s.station := rfl
@[simp] theorem tickPhases_tally : (tickPhases s).tally = s.tally := rfl
@[simp] theorem tickPhases_arrival : (tickPhases s).arrival = s.arrival := rfl
@[simp] theorem tickPhases_claim : (tickPhases s).claim = s.claim := rfl
@[simp] theorem tickPhases_inquiry : (tickPhases s).inquiry = s.inquiry := rfl
@[simp] theorem tickPhases_rules : (tickPhases s).rules = s.rules := rfl
@[simp] theorem tickPhases_line : (tickPhases s).line = s.line := rfl
@[simp] theorem tickPhases_access : (tickPhases s).access = s.access := rfl
@[simp] theorem tickPhases_watch : (tickPhases s).watch = s.watch := rfl
@[simp] theorem tickPhases_cond : (tickPhases s).cond = s.cond := rfl
@[simp] theorem tickPhases_port : (tickPhases s).port = s.port := rfl
@[simp] theorem tickPhases_draws : (tickPhases s).draws = s.draws := rfl
@[simp] theorem tickPhases_pending : (tickPhases s).pending = s.pending := rfl

end Sys2Proof.Machine
end

