-- ==== Sys2Proof/Laws/Conditions.lean ====
section
/-! SUPPORT. The condition flags: membership in a set, what an occurrence does to the four sets, the pins after a refresh, and
that the sets stay disjoint (9.1, R167, R168, R171, R175). -/

namespace Sys2Proof.Machine

/-! ## Sets -/

theorem Condition.index_lt (c : Condition) : c.index < 16 := by cases c <;> decide

theorem Condition.index_inj {c d : Condition} : c.index = d.index ↔ c = d := by
  constructor
  · cases c <;> cases d <;> simp [Condition.index]
  · rintro rfl; rfl

@[simp] theorem has_addTo (cs : CondSet) (c d : Condition) : has (addTo cs c) d = (has cs d || c == d) := by
  have h := d.index_lt
  by_cases e : c = d
  · subst e; simp [has, addTo, Condition.bit, h]
  · have : ¬ c.index = d.index := fun x => e (Condition.index_inj.mp x)
    simp [has, addTo, Condition.bit, this, e]

@[simp] theorem has_takeFrom (cs : CondSet) (c d : Condition) : has (takeFrom cs c) d = (has cs d && c != d) := by
  have h := d.index_lt
  by_cases e : c = d
  · subst e; simp [has, takeFrom, Condition.bit, h]
  · have : ¬ c.index = d.index := fun x => e (Condition.index_inj.mp x)
    have ne : ¬ d.index = c.index := fun x => this x.symm
    have : (c != d) = true := by simp [e]
    simp [has, takeFrom, Condition.bit, ne, h, this]

@[simp] theorem has_zero (c : Condition) : has 0 c = false := by simp [has]

/-- Two sets are disjoint when no bit is in both. -/
theorem disjoint_iff (a b : CondSet) : a &&& b = 0 ↔ ∀ i, a.getLsbD i = true → b.getLsbD i = false := by
  constructor
  · intro h i ha
    have := congrArg (fun x => x.getLsbD i) h
    simpa [ha] using this
  · intro h
    apply BitVec.eq_of_getLsbD_eq
    intro i _
    simp only [BitVec.getLsbD_and, BitVec.ofNat_eq_ofNat, BitVec.getLsbD_zero, Bool.and_eq_false_imp]
    exact h i

theorem disjoint_addTo_right {a b : CondSet} {c : Condition} (h : a &&& b = 0) (hc : has a c = false) :
    a &&& addTo b c = 0 := by
  rw [disjoint_iff] at *
  intro i ha
  have hi : c.index ≠ i := by rintro rfl; simp [has, ha] at hc
  simp [addTo, Condition.bit, h i ha, hi]

theorem disjoint_addTo_left {a b : CondSet} {c : Condition} (h : a &&& b = 0) (hc : has b c = false) :
    addTo a c &&& b = 0 := by
  rw [BitVec.and_comm] at *
  exact disjoint_addTo_right h hc

theorem disjoint_takeFrom_right {a b : CondSet} {c : Condition} (h : a &&& b = 0) : a &&& takeFrom b c = 0 := by
  rw [disjoint_iff] at *
  intro i ha
  simp [takeFrom, h i ha]

theorem disjoint_mask_left {a b m : CondSet} (h : a &&& b = 0) : a &&& m &&& b = 0 := by
  rw [disjoint_iff] at *
  intro i ha
  simp only [BitVec.getLsbD_and, Bool.and_eq_true] at ha
  exact h i ha.1

/-- A condition of a set that is disjoint from another is not in the other. -/
theorem disjoint_has {a b : CondSet} {c : Condition} (h : a &&& b = 0) (hb : has b c = true) : has a c = false := by
  rw [BitVec.and_comm, disjoint_iff] at h
  exact h c.index hb

/-- The highest of a set is in the set (R163). -/
theorem highest_has {cs : CondSet} {c : Condition} (h : highest cs = some c) : has cs c = true := by
  simpa using List.find?_some h

theorem Condition.mem_all (c : Condition) : c ∈ Condition.all := by cases c <;> decide

theorem Condition.all_sorted : Condition.all.Pairwise fun c d => c.rank < d.rank := by decide

/-- No condition of a set ranks above its highest (R163). -/
theorem highest_least {cs : CondSet} {c d : Condition} (h : highest cs = some c) (hd : has cs d = true) :
    c.rank ≤ d.rank := by
  obtain ⟨-, as, bs, heq, none⟩ := List.find?_eq_some_iff_append.mp h
  have sorted := heq ▸ Condition.all_sorted
  have mem : d ∈ as ++ c :: bs := heq ▸ d.mem_all
  rcases List.mem_append.mp mem with m | m
  · simpa [hd] using none d m
  · rcases List.mem_cons.mp m with rfl | m
    · exact Nat.le_refl _
    · exact Nat.le_of_lt ((List.pairwise_cons.mp (List.pairwise_append.mp sorted).2.1).1 d m)

/-- A set that holds no condition is empty. -/
theorem set_eq_zero {cs : CondSet} (h : ∀ c, has cs c = false) : cs = 0 := by
  apply BitVec.eq_of_getLsbD_eq
  intro i hi
  have key : ∀ k : Fin 16, (Condition.all[k.val]?.map Condition.index) = some k.val := by decide
  obtain ⟨c, -, rfl⟩ := Option.map_eq_some_iff.mp (key ⟨i, hi⟩)
  simpa [has] using h c

/-! ## Occurrences -/

variable (u : ConditionUnit) (c : Condition) (d : Detail) (a : Action)

@[simp] theorem occurrence_recorded : (u.occurrence c d a).recorded = addTo u.recorded c := rfl

@[simp] theorem occurrence_inService : (u.occurrence c d a).inService = u.inService := by
  unfold ConditionUnit.occurrence ConditionUnit.takeAction
  (repeat' split) <;> rfl

@[simp] theorem occurrence_mask : (u.occurrence c d a).mask = u.mask := by
  unfold ConditionUnit.occurrence ConditionUnit.takeAction
  (repeat' split) <;> rfl

@[simp] theorem occurrence_routing : (u.occurrence c d a).routing = u.routing := by
  unfold ConditionUnit.occurrence ConditionUnit.takeAction
  (repeat' split) <;> rfl

@[simp] theorem occurrence_autoEnd : (u.occurrence c d a).autoEnd = u.autoEnd := by
  unfold ConditionUnit.occurrence ConditionUnit.takeAction
  (repeat' split) <;> rfl

/-- What an occurrence makes of the deferred and the pending set: at most the one condition is added, to at most one of
them, and only where it stood in neither (R168). -/
theorem occurrence_sets :
    ((u.occurrence c d a).deferred = u.deferred ∧ (u.occurrence c d a).pending = u.pending) ∨
      (has u.deferred c = false ∧ has u.pending c = false ∧
        (((u.occurrence c d a).deferred = u.deferred ∧ (u.occurrence c d a).pending = addTo u.pending c) ∨
          (has u.inService c = false ∧ (u.occurrence c d a).deferred = addTo u.deferred c ∧
            (u.occurrence c d a).pending = u.pending))) := by
  unfold ConditionUnit.occurrence ConditionUnit.takeAction
  split
  · exact .inl ⟨rfl, rfl⟩
  · rename_i h
    simp only [Bool.or_eq_true, not_or, Bool.not_eq_true] at h
    split
    · cases a
      · exact .inl ⟨rfl, rfl⟩
      all_goals exact .inr ⟨h.1, h.2, .inl ⟨rfl, rfl⟩⟩
    · rename_i hs
      cases a
      · dsimp only; split <;> exact .inl ⟨rfl, rfl⟩
      · exact .inr ⟨h.1, h.2, .inr ⟨by simpa using hs, rfl, rfl⟩⟩
      all_goals exact .inr ⟨h.1, h.2, .inl ⟨rfl, rfl⟩⟩

variable {u}

theorem occurrence_disjoint (h : u.disjoint) : (u.occurrence c d a).disjoint := by
  obtain ⟨hp, hs⟩ := h
  rcases occurrence_sets u c d a with ⟨e1, e2⟩ | ⟨hd, hn, ⟨e1, e2⟩ | ⟨hi, e1, e2⟩⟩
  · exact ⟨by rw [e1, e2]; exact hp, by rw [e1, occurrence_inService]; exact hs⟩
  · exact ⟨by rw [e1, e2]; exact disjoint_addTo_right hp hd, by rw [e1, occurrence_inService]; exact hs⟩
  · exact ⟨by rw [e1, e2]; exact disjoint_addTo_left hp hn, by rw [e1, occurrence_inService]; exact disjoint_addTo_left hs hi⟩

theorem releaseDeferred_disjoint : u.releaseDeferred.disjoint := by
  simp [ConditionUnit.disjoint, ConditionUnit.releaseDeferred]

theorem clearSets_disjoint : u.clearSets.disjoint := by simp [ConditionUnit.disjoint, ConditionUnit.clearSets]

/-! ## Occurrences in the state, and the pins -/

variable (s : State)

theorem occur_disjoint (h : s.cond.disjoint) : (occur c d s).cond.disjoint := by
  unfold occur
  split
  · exact h
  · exact occurrence_disjoint c d _ h

/-- A fold of steps keeps what each step keeps. -/
theorem foldl_induct {α : Type} {P : State → Prop} (f : State → α → State) (hf : ∀ s a, P s → P (f s a)) (l : List α) :
    ∀ s, P s → P (l.foldl f s) := by
  induction l with
  | nil => intro s h; exact h
  | cons a l ih => intro s h; exact ih (f s a) (hf s a h)

theorem occurAll_disjoint (ds : List Detail) (h : s.cond.disjoint) : (occurAll ds s).cond.disjoint :=
  foldl_induct (P := fun s => s.cond.disjoint) _ (fun s d h => occur_disjoint d.condition d s h) ds s h

theorem decideItem_disjoint (tag : Byte) (x : Disposition) (y : HoldReason) (h : s.cond.disjoint) :
    (decideItem tag x y s).cond.disjoint := by
  unfold decideItem
  dsimp only
  split
  · exact h
  · split
    · exact occurAll_disjoint _ _ (by split <;> simpa using h)
    · exact h

theorem decideAll_disjoint (y : HoldReason) (h : s.cond.disjoint) : (decideAll y s).cond.disjoint :=
  foldl_induct (P := fun s => s.cond.disjoint) _ (fun s t h => decideItem_disjoint s t _ _ h) _ s h

theorem finishClearWork_disjoint (h : s.cond.disjoint) : (finishClearWork s).cond.disjoint := by
  have hc : (if s.station.state == .halted then s else s.setCond s.cond.clearSets).cond.disjoint := by
    split
    · exact h
    · exact clearSets_disjoint
  unfold finishClearWork
  split
  · dsimp only
    split <;> simpa using hc
  · exact h

theorem releaseItems_disjoint (h : s.cond.disjoint) : (releaseItems s).cond.disjoint := by
  unfold releaseItems
  dsimp only
  apply finishClearWork_disjoint
  split
  · exact releaseDeferred_disjoint
  · exact h

theorem enterHalted_disjoint (h : s.cond.disjoint) : (enterHalted s).cond.disjoint := by
  unfold enterHalted
  split
  · exact releaseItems_disjoint _ (decideAll_disjoint _ .halted (by exact h))
  · exact h

theorem haltOccurrence_disjoint (h : s.cond.disjoint) : (haltOccurrence c d s).cond.disjoint :=
  enterHalted_disjoint _ (occur_disjoint c d s h)

theorem memoryFault_disjoint (k : TitleKey) (h : s.cond.disjoint) : (memoryFault k s).cond.disjoint :=
  haltOccurrence_disjoint _ _ _ (by simpa using h)

/-- The levels the attention controller drives are those of R171 and R175. -/
theorem attnLevel_iff : attnLevel s.station s.cond = true ↔ s.attnDue := by
  simp only [attnLevel, State.attnDue, Bool.and_eq_true, bne_iff_ne, and_assoc]
  refine and_congr_right fun _ => and_congr_right fun _ => ?_
  cases hp : highest s.cond.pending with
  | none =>
    simp only [Bool.false_eq_true, false_iff, not_exists]
    rintro c ⟨hc, -⟩
    have := List.find?_eq_none.mp hp c c.mem_all
    exact this hc
  | some p =>
    cases hq : highest s.cond.inService with
    | none =>
      simp only [true_iff]
      exact ⟨p, highest_has hp, fun d hd => absurd hd (List.find?_eq_none.mp hq d d.mem_all)⟩
    | some q =>
      simp only [decide_eq_true_eq]
      constructor
      · exact fun h => ⟨p, highest_has hp, fun d hd => Nat.lt_of_lt_of_le h (highest_least hq hd)⟩
      · rintro ⟨c, hc, h⟩
        exact Nat.lt_of_le_of_lt (highest_least hp hc) (h q (highest_has hq))

theorem stopLevel_iff : stopLevel s.station s.cond = true ↔ s.stopDue := by
  simp only [stopLevel, State.stopDue, Bool.and_eq_true, bne_iff_ne, and_assoc, Bool.or_eq_true, beq_iff_eq]
  refine and_congr_right fun _ => and_congr_right fun _ => or_congr_right ?_
  constructor
  · intro h
    by_cases e : ∃ c, has s.cond.routing c = true ∧ (has s.cond.pending c = true ∨ has s.cond.inService c = true)
    · exact e
    · refine absurd (set_eq_zero fun c => ?_) h
      refine Bool.eq_false_iff.mpr fun hc => e ⟨c, ?_⟩
      simpa only [has, BitVec.getLsbD_and, BitVec.getLsbD_or, Bool.and_eq_true, Bool.or_eq_true] using hc
  · rintro ⟨c, hr, hc⟩ h
    have := congrArg (fun x => has x c) h
    simp only [has, BitVec.getLsbD_and, BitVec.getLsbD_or] at this hr hc
    rcases hc with hc | hc <;> simp [hr, hc] at this

/-- After a refresh ATTN stands as R171 says, and STOP as R175 says. -/
theorem refresh_attn : (refresh s).cond.attn = true ↔ (refresh s).attnDue := attnLevel_iff (refresh s)
theorem refresh_stop : (refresh s).cond.stop = true ↔ (refresh s).stopDue := stopLevel_iff (refresh s)

@[simp] theorem refresh_recorded : (refresh s).cond.recorded = s.cond.recorded := rfl
@[simp] theorem refresh_deferred : (refresh s).cond.deferred = s.cond.deferred := rfl
@[simp] theorem refresh_pending_set : (refresh s).cond.pending = s.cond.pending := rfl
@[simp] theorem refresh_inService : (refresh s).cond.inService = s.cond.inService := rfl
@[simp] theorem refresh_details : (refresh s).cond.details = s.cond.details := rfl
@[simp] theorem refresh_mask : (refresh s).cond.mask = s.cond.mask := rfl
@[simp] theorem refresh_routing : (refresh s).cond.routing = s.cond.routing := rfl
@[simp] theorem refresh_autoEnd : (refresh s).cond.autoEnd = s.cond.autoEnd := rfl
@[simp] theorem refresh_queue : (refresh s).access.queue = s.access.queue := by
  simp only [refresh, State.setAccess_access, restUnit]; split <;> rfl
@[simp] theorem refresh_yield : (refresh s).access.yield = s.access.yield := by
  simp only [refresh, State.setAccess_access, restUnit]; split <;> rfl

theorem refresh_disjoint (h : s.cond.disjoint) : (refresh s).cond.disjoint := h

end Sys2Proof.Machine
end

