-- ==== Sys2Proof/Laws/Commands.lean ====
section
/-! SUPPORT. How a command comes to act: a request that is served, a frame that is handled, a command under POWER GOOD. For each,
what it can do, and when it does it. -/

namespace Sys2Proof.Machine

variable {P : State → Prop} {s : State}

/-! ## Requests (R191, R192, R193) -/

/-- The request a row's command handles is the one at the head, and it is of that row. -/
theorem requestFor_eq_some {row : RequestRow} {r : Request} :
    requestFor row s = some r ↔ ∃ rest, Serving s r rest ∧ r.row = row := by
  unfold requestFor Serving
  constructor
  · intro h
    split at h
    · rename_i g
      simp only [Bool.and_eq_true, Bool.not_eq_true', decide_eq_true_eq] at g
      cases hb : s.port.buffer with
      | nil => simp [hb] at h
      | cons a rest =>
        simp only [hb] at h
        split at h
        · cases h
          rename_i hr
          exact ⟨rest, ⟨g.1.1, g.1.2, g.2, rfl⟩, by simpa using hr⟩
        · cases h
    · cases h
  · rintro ⟨rest, ⟨h1, h2, h3, h4⟩, rfl⟩
    simp [h1, h2, h3, h4]

theorem serving_powered {r : Request} {rest : List Request} (h : Serving s r rest) : s.station.powerGood = true := h.1

/-- Everything a served command can do: nothing, a refusal, or what the row does with the request. -/
theorem serve_keeps {row : RequestRow} {taken : StationState → Bool} {take : Request → State → State} (h : P s)
    (refuse : ∀ r res, requestFor row s = some r → res = .refusedForm ∨ res = .refusedState → P (answerRequest r res [] s))
    (act : ∀ r, requestFor row s = some r → r.formOk = true → taken s.station.state = true → P (take r s)) :
    P (serve row taken take s) := by
  unfold serve
  split
  · exact h
  · rename_i r hr
    split
    · exact refuse r _ hr (.inl rfl)
    · split
      · exact refuse r _ hr (.inr rfl)
      · rename_i hf ht
        exact act r hr (by simpa using hf) (by simpa using ht)

/-- A request of correct form in a state that takes it is taken. -/
theorem serve_taken {row : RequestRow} {taken : StationState → Bool} {take : Request → State → State} {r : Request}
    {rest : List Request} (h : Serving s r rest) (hrow : r.row = row) (hform : r.formOk = true)
    (hstate : taken s.station.state = true) : serve row taken take s = take r s := by
  unfold serve
  rw [requestFor_eq_some.mpr ⟨rest, h, hrow⟩]
  simp [hform, hstate]

/-- A request of wrong form is refused, whatever the state (R191). -/
theorem serve_refusedForm {row : RequestRow} {taken : StationState → Bool} {take : Request → State → State} {r : Request}
    {rest : List Request} (h : Serving s r rest) (hrow : r.row = row) (hform : r.formOk = false) :
    serve row taken take s = answerRequest r .refusedForm [] s := by
  unfold serve
  rw [requestFor_eq_some.mpr ⟨rest, h, hrow⟩]
  simp [hform]

/-- A request of correct form in a state that does not take it is refused (R193). -/
theorem serve_refusedState {row : RequestRow} {taken : StationState → Bool} {take : Request → State → State} {r : Request}
    {rest : List Request} (h : Serving s r rest) (hrow : r.row = row) (hform : r.formOk = true)
    (hstate : taken s.station.state = false) : serve row taken take s = answerRequest r .refusedState [] s := by
  unfold serve
  rw [requestFor_eq_some.mpr ⟨rest, h, hrow⟩]
  simp [hform, hstate]

/-- A served command changes nothing where no request of its row is in handling. -/
theorem serve_idle {row : RequestRow} {taken : StationState → Bool} {take : Request → State → State}
    (h : requestFor row s = none) : serve row taken take s = s := by
  unfold serve; rw [h]

/-- Replying to the head request, as `State.replied` says it. -/
theorem answerRequest_eq {r : Request} {res : ResultCode} {bs : List Byte} {rest : List Request}
    (h : s.port.buffer = r :: rest) : answerRequest r res bs s = s.replied rest ([r.kind, res.code] ++ bs) := by
  simp [answerRequest, State.replied, State.setPort, LanePort.produce, replyRecord, h]

/-! ## Frames (R4, R5, R6) -/

theorem frameFor_eq_some {own : Bool} {kind : FrameKind} {f : StoredFrame} :
    frameFor own kind s = some f ↔ Takes own f s ∧ f.kind = kind ∧ (own = true ∨ f.lane ≠ s.station.lane) := by
  unfold frameFor Takes
  constructor
  · intro h
    split at h
    · rename_i g
      simp only [Bool.and_eq_true] at g
      split at h
      · rename_i f' o e
        split at h
        · rename_i c
          cases h
          simp only [Bool.and_eq_true, beq_iff_eq, Bool.or_eq_true, bne_iff_ne] at c
          exact ⟨⟨g.1, g.2, c.1.1 ▸ e⟩, c.1.2, c.2⟩
        · cases h
      · cases h
    · cases h
  · rintro ⟨⟨h1, h2, h3⟩, rfl, h5⟩
    simp only [h1, h2, h3, Bool.and_self, if_true, beq_self_eq_true, Bool.true_and]
    rcases h5 with rfl | h5
    · simp
    · simp [bne_iff_ne.mpr h5]

/-- Everything a frame's command can do: nothing, or the handling of the frame. -/
theorem handleFrame_keeps {own : Bool} {kind : FrameKind} {handle : StoredFrame → State → State} (h : P s)
    (act : ∀ f, Takes own f s → f.kind = kind → (own = true ∨ f.lane ≠ s.station.lane) →
      P (refresh (handle f (s.setLine (freeFrame f s.line))))) : P (handleFrame own kind handle s) := by
  unfold handleFrame
  split
  · exact h
  · rename_i f hf
    obtain ⟨a, b, c⟩ := frameFor_eq_some.mp hf
    exact act f a b c

/-- A frame of a command's origin and kind is handled. -/
theorem handleFrame_taken {own : Bool} {kind : FrameKind} {handle : StoredFrame → State → State} {f : StoredFrame}
    (h : Takes own f s) (hk : f.kind = kind) (hl : own = true ∨ f.lane ≠ s.station.lane) :
    handleFrame own kind handle s = refresh (handle f (s.setLine (freeFrame f s.line))) := by
  unfold handleFrame
  rw [frameFor_eq_some.mpr ⟨h, hk, hl⟩]

theorem freed_eq (f : StoredFrame) : s.setLine (freeFrame f s.line) = s.freed f := rfl

/-! ## POWER GOOD (R181) -/

/-- Everything a command under POWER GOOD can do: nothing, or its act. -/
theorem powered_keeps {act : State → State} (h : P s) (hact : s.station.powerGood = true → P (act s)) :
    P (powered act s) := by
  unfold powered; split
  · exact hact ‹_›
  · exact h

theorem powered_on {act : State → State} (h : s.station.powerGood = true) : powered act s = act s := by
  simp [powered, h]

theorem powered_off {act : State → State} (h : s.station.powerGood = false) : powered act s = s := by
  simp [powered, h]

end Sys2Proof.Machine
end

