-- ==== Sys2Proof/Laws/Line.lean ====
section
/-! SUPPORT. The lines and the corrections: what a jam puts on the line, the levels at rest, runs of samples taken in parts,
and which pending correction an entry, an expiry or an own frame belongs to. -/

namespace Sys2Proof.Machine

/-! ## Waves -/

@[simp] theorem characterBits_length (d : Byte) (m : Bool) : (characterBits d m).length = 11 := by simp [characterBits]

@[simp] theorem portCharacterBits_length (d : Byte) : (portCharacterBits d).length = 10 := by simp [portCharacterBits]

@[simp] theorem jamLevels_length : jamLevels.length = 16 := rfl

/-- Every character takes 11 bit times (R118). -/
theorem sentBits_length (chars : List Byte) : (sentBits chars).length = 11 * chars.length := by
  cases chars with
  | nil => rfl
  | cons head tail => simp [sentBits, List.length_flatMap]; omega

/-- A jam ends 16 bit times after what still stands of the wave (R124). -/
@[simp] theorem jammedWave_length (rate : BitVec 2) (wave : List Bool) (elapsed : Nat) :
    (jammedWave rate wave elapsed).length = bitsBeforeJam rate wave elapsed + 16 := by simp [jammedWave]

/-- Before its jam begins a wave stands as it was, released where it had ended (R124). -/
theorem jammedWave_before (rate : BitVec 2) (wave : List Bool) (elapsed i : Nat) (h : i < bitsBeforeJam rate wave elapsed) :
    (jammedWave rate wave elapsed).getD i true = wave.getD i true := by
  simp [jammedWave, List.getD, List.getElem?_append, h]

/-- From its jam on the line is low for 14 bit times and then released (R124). -/
theorem jammedWave_from (rate : BitVec 2) (wave : List Bool) (elapsed i : Nat) :
    (jammedWave rate wave elapsed).getD (bitsBeforeJam rate wave elapsed + i) true = decide (14 ≤ i) := by
  simp only [jammedWave, List.getD, List.getElem?_append, List.length_map, List.length_range, Nat.not_lt.2 (Nat.le_add_right _ _),
    if_false, Nat.add_sub_cancel_left]
  by_cases h : i < 16
  · interval_cases i <;> rfl
  · rw [List.getElem?_eq_none (by simpa using h)]
    simp only [Option.getD_none, true_eq_decide_iff]; omega

/-! ## Sampling times -/

theorem bitPeriods_ge (rate : BitVec 2) : 16 ≤ bitPeriods rate := by
  revert rate; decide

/-- A sample interval has one of two lengths, the whole part of the divisor or one period more (R119). -/
theorem sampleInterval_cases (rate : BitVec 2) (k : Nat) :
    sampleInterval rate k = bitPeriods rate / 16 ∨ sampleInterval rate k = bitPeriods rate / 16 + 1 := by
  cases h : longInterval rate k <;> simp [sampleInterval, h]

theorem sampleInterval_pos (rate : BitVec 2) (k : Nat) : 0 < sampleInterval rate k :=
  Nat.lt_of_lt_of_le (Nat.div_pos (bitPeriods_ge rate) (by decide)) (Nat.le_add_right _ _)

@[simp] theorem sampleLine_length (rate : BitVec 2) (level : Nat → Bool) (start count : Nat) :
    (sampleLine rate level start count).length = count := by simp [sampleLine]

/-- The samples of a bit time begin anew at its boundary (R119). -/
theorem sampleTime_bit (rate : BitVec 2) (i : Nat) {j : Nat} (h : j < 16) :
    sampleTime rate (16 * i + j) = i * bitPeriods rate + ((List.range j).map (sampleInterval rate)).sum := by
  rw [sampleTime, show (16 * i + j) / 16 = i by omega, show (16 * i + j) % 16 = j by omega]

/-! ## A jam commanded -/

section Jam
variable (a : LineAccess) (rate : BitVec 2)

@[simp] theorem LineAccess.jam_unit : (a.jam rate).unit = .jamming := rfl
@[simp] theorem LineAccess.jam_wave : (a.jam rate).wave = jammedWave rate a.wave a.txElapsed := rfl
@[simp] theorem LineAccess.jam_queue : (a.jam rate).queue = a.queue := rfl
@[simp] theorem LineAccess.jam_yield : (a.jam rate).yield = a.yield := rfl
@[simp] theorem LineAccess.jam_flight : (a.jam rate).flight = a.flight := rfl
@[simp] theorem LineAccess.jam_readback : (a.jam rate).readback = a.readback := rfl
@[simp] theorem LineAccess.jam_readbackFault : (a.jam rate).readbackFault = a.readbackFault := rfl
@[simp] theorem LineAccess.jam_txElapsed : (a.jam rate).txElapsed = a.txElapsed := rfl
@[simp] theorem LineAccess.jam_placements : (a.jam rate).placements = a.placements := rfl
theorem LineAccess.jam_jamLeft :
    (a.jam rate).jamLeft = (bitsBeforeJam rate a.wave a.txElapsed + 16) * bitPeriods rate - a.txElapsed := by
  simp [LineAccess.jam]

end Jam

/-! ## Levels -/

/-- A line stands at the bit whose time it is (R118). -/
theorem levelAt_bit {bit n : Nat} (wave : List Bool) (i : Nat) (h : n < bit) :
    levelAt bit wave (bit * i + n) = wave.getD i true := by
  rw [levelAt, Nat.mul_add_div (Nat.zero_lt_of_lt h), Nat.div_eq_of_lt h, Nat.add_zero]

/-- At rest the dock line is released (R124). -/
theorem dockLevel_rest {s : State} (h : s.access.unit = .quiet ∨ s.access.unit = .deferring) : dockLevel s = true := by
  rcases h with h | h <;> cases hp : s.station.powerGood <;> simp [dockLevel, h, hp]

/-- While this station sends or jams, the dock line stands at the bit of its wave (R118, R124). -/
theorem dockLevel_busy {s : State} (hp : s.station.powerGood = true)
    (h : s.access.unit = .sending ∨ s.access.unit = .jamming) :
    dockLevel s = levelAt (bitPeriods s.station.rate) s.access.wave s.access.txElapsed := by
  rcases h with h | h <;> simp [dockLevel, h, hp]

/-- With nothing to send the lane port's output stands at the level of a stop bit (R189). -/
theorem portLevel_idle {s : State} (h : s.port.output = []) : portLevel s = true := by
  cases hp : s.station.powerGood <;> simp [portLevel, h, hp]

theorem portLevel_sending {s : State} {o : OutRecord} {more : List OutRecord} (hp : s.station.powerGood = true)
    (h : s.port.output = o :: more) : portLevel s = levelAt Config.lanePortBitPeriods o.bits s.port.outElapsed := by
  simp [portLevel, h, hp]

/-! ## Runs of samples -/

/-- A run of samples may be taken in parts. -/
theorem takeAll_append {R : Type} (take : R → Bool → R × List Instr) (r : R) (xs ys : List Bool) :
    takeAll take r (xs ++ ys) =
      ((takeAll take (takeAll take r xs).1 ys).1, (takeAll take r xs).2 ++ (takeAll take (takeAll take r xs).1 ys).2) := by
  induction xs generalizing r with
  | nil => simp [takeAll]
  | cons b rest ih => simp only [List.cons_append, takeAll, ih, List.append_assoc]

/-! ## Which correction -/

/-- The correction an entry names carries the entry's number, claim lane and claim sequence (R138, log 32). -/
theorem ClaimSequencer.ownerOf_spec {c : ClaimSequencer} {o : Owner} {x : Correction} (h : c.ownerOf o = some x) :
    x ∈ c.corrections ∧ x.owner = o :=
  ⟨List.mem_of_find?_eq_some h, by simpa using List.find?_some h⟩

/-- Distinct records have distinct owners once their numbers are distinct (log 32). -/
theorem Correction.owner_inj {x y : Correction} :
    x.owner = y.owner ↔ x.claimLane = y.claimLane ∧ x.claimSeq = y.claimSeq ∧ x.number = y.number := by
  simp [Correction.owner]

/-- The record whose hold-off ends is a HOLDING one of the claim, behind no other such (R69, log 32). -/
theorem ClaimSequencer.holdingFor_spec {c : ClaimSequencer} {l : Lane} {q : Byte} {x : Correction} (h : c.holdingFor l q = some x) :
    x.claimLane = l ∧ x.claimSeq = q ∧ x.stage = .holding ∧ ∃ before behind, c.corrections = before ++ x :: behind ∧
      ∀ y ∈ before, ¬ (y.claimLane = l ∧ y.claimSeq = q ∧ y.stage = .holding) := by
  obtain ⟨hx, before, behind, hc, hb⟩ := List.find?_eq_some_iff_append.1 h
  simp only [Bool.and_eq_true, beq_iff_eq] at hx
  refine ⟨hx.1.1, hx.1.2, hx.2, before, behind, hc, fun y hy hn => ?_⟩
  simpa [hn.1, hn.2.1, hn.2.2] using hb y hy

/-- An own CORRECTION's frame belongs to no record that is not SENDING under its sequence (R72). -/
theorem Correction.sentAs_spec {c : Correction} {f : CorrectionFields} (h : c.sentAs f = true) :
    c.claimSeq = f.claimSeq ∧ c.stage = .sending ∧ c.drawn = some f.seq := by
  simp only [Correction.sentAs, Correction.names, Bool.and_eq_true, beq_iff_eq] at h
  exact ⟨h.1.1.2, h.1.2, h.2⟩

/-- An own ANSWER's frame belongs to no answer that is not SENDING (R98, R100). -/
theorem Answer.sentAs_spec {x : Answer} {f : AnswerFields} (h : x.sentAs f = true) : x.key = f.key ∧ x.stage = .sending := by
  simp only [Answer.sentAs, Bool.and_eq_true, beq_iff_eq] at h
  exact ⟨h.1.2, h.2⟩

end Sys2Proof.Machine
end

