-- ==== Sys2Proof/WellFormed.lean ====
section
/-! DEFINITION. Which commands are well formed: the bounds the spec puts on what an operand can name. -/

namespace Sys2Proof

/-- A title key has 13 digits (00_scope, Title keys). -/
def TitleKey.wf (k : TitleKey) : Bool := k.digits.length == 13

/-- A lane on the dock line is 1 to 31; 0 is the strap-fault value (00_scope, Numbers and quantities). -/
def laneWf (l : Lane) : Bool := l != 0

/-- The operands that name a record name one the block could hold. Every other operand may take any value: the straps
(lane 0 is a strap fault, R181), every byte of either link, every count of idle bit times. -/
def Instr.wf : Instr → Bool
  | .inquiryWindowExpiry k => k.wf
  | .answerHoldOffExpiry l k => laneWf l && k.wf
  | .correctionHoldOffExpiry l _ => laneWf l
  | _ => true

end Sys2Proof
end

