-- ==== Sys2Proof/Tests/Slice0.lean ====
section
/-! SUPPORT. Tests: the operand checks, the spec's worked values and sequences (each named by its section), and for every
obligation with hypotheses a state and operands that meet them, at the boundaries of its clauses. -/

namespace Sys2Proof.Machine.Tests

open Sys2Proof Sys2Proof.Machine

/-! ## Operand checks -/

theorem test_wf_refuses_a_short_title : Instr.wf (.inquiryWindowExpiry { digits := [1, 2], part := 0 }) = false := by decide
theorem test_wf_refuses_a_long_title :
    Instr.wf (.answerHoldOffExpiry 3 { digits := List.replicate 14 0, part := 0 }) = false := by decide
theorem test_wf_refuses_answer_to_lane_0 :
    Instr.wf (.answerHoldOffExpiry 0 { digits := List.replicate 13 0, part := 0 }) = false := by decide
theorem test_wf_refuses_correction_of_lane_0 : Instr.wf (.correctionHoldOffExpiry 0 9) = false := by decide
theorem test_wf_takes_13_digits :
    Instr.wf (.answerHoldOffExpiry 31 { digits := List.replicate 13 9, part := 0 }) = true := by decide
theorem test_wf_takes_lane_strap_0 : Instr.wf (.powerGoodRise 0 0 false) = true := by decide

/-! ## No row of the table has bits -/

theorem test_no_word_spells_a_command : decodeTableWord 8 65 = none ∧ decodeTableWord 16 0 = none := by decide
theorem test_withFetchWord_leaves_the_state : State.reset.withFetchWord 8 65 = State.reset := by decide

/-! ## Small states -/

/-- The station of the reset state, in another state of 10.2. -/
def inState (x : StationState) : State := { station := { state := x } }

/-- A state with one request in the input buffer. -/
def asked (s : State) (kind : Byte) (payload : List Byte) : State :=
  { s with port := { s.port with buffer := [{ kind := kind, length := byteOf payload.length, payload := payload }] } }

/-- The state a command leaves. -/
def after (c : Instr) (s : State) : State :=
  match exec c s with
  | .next t => t
  | .fault _ | .refused _ => s

def afterAll (cs : List Instr) (s : State) : State := cs.foldl (fun s c => after c s) s

/-- The payloads on the output stream. -/
def sent (s : State) : List (List Byte) := s.port.output.map OutRecord.payload

def chars (ds : List Nat) : List Byte := ds.map fun d => byteOf (48 + d)

/-- The identifier 4021300587167 of 5.4. -/
def idA : List Byte := chars [4, 0, 2, 1, 3, 0, 0, 5, 8, 7, 1, 6, 7]
def keyA (part : Nat) : TitleKey := keyOfChars idA (BitVec.ofNat 16 part)

def entryA (part count : Nat) : Entry :=
  { key := keyA part, count := count, refMass := some 612, certainty := .certain, lastClaim := none, pins := 1 }

def itemA (tag : Byte) (stage : Stage) : Item :=
  { tag := tag, chars := idA, part := 0, mass := .usable 600, cls := 0, stage := stage, deadline := 1500, pinned := true
    accepted := tag.toNat }

/-- A listening station with a frame in receive slot 1. -/
def hears (x : StationState) (f : StoredFrame) : State := { inState x with line := { receiver := .idle, slot1 := some f } }

/-- A station with a frame in its own-frame holder. -/
def holds (x : StationState) (f : StoredFrame) : State := { inState x with line := { receiver := .idle, holder := some f } }

def peer (kind : FrameKind) (payload : List Byte) : StoredFrame := { kind := kind, lane := 9, payload := payload, order := 0 }
def own (kind : FrameKind) (payload : List Byte) : StoredFrame := { kind := kind, lane := 1, payload := payload, order := 0 }

/-! ## Worked values of the spec -/

theorem test_5_4_check_digits :
    checkDigit [4, 0, 2, 1, 3, 0, 0, 5, 8, 7, 1, 6] = 7 ∧ checkDigit [3, 1, 5, 0, 8, 0, 2, 2, 6, 0, 1, 7] = 9 ∧
      checkDigit [3, 1, 5, 0, 8, 0, 2, 2, 6, 0, 1, 8] = 0 := by decide
theorem test_5_4_pretest :
    pretest (chars [3, 1, 5, 0, 8, 0, 2, 2, 6, 0, 1, 7, 9]) 0 = true ∧
      pretest (chars [3, 1, 5, 0, 8, 0, 2, 2, 6, 0, 1, 7, 4]) 0 = false ∧
      pretest (chars [3, 1, 5, 0, 8] ++ [79] ++ chars [2, 2, 6, 0, 1, 7, 9]) 0 = false ∧
      pretest (chars [3, 1, 5, 0, 8, 0, 2, 2, 6, 0, 1, 7, 9]) 10000 = false := by decide
theorem test_5_5_bands :
    massBand { r := 20, f := 6 } 612 = 12 ∧ massBand { r := 20, f := 6 } 100 = 6 ∧ massBand { r := 1, f := 0 } 1536 = 2 ∧
      massBand { r := 1, f := 0 } 512 = 1 ∧ massBand { r := 1, f := 0 } 511 = 0 ∧
      massBand { r := 255, f := 0 } 60000 = 14941 := by decide
theorem test_5_5_results :
    massCheck {} 1 (some 612) (.usable 600) = .matched ∧ massCheck {} 1 (some 612) (.usable 625) = .mismatch ∧
      massCheck { r := 255, f := 0 } 1 (some 60000) (.usable 45058) = .mismatch := by decide

/-- The ranges of the worked case of 5.3. -/
def rangesOf53 : List PublisherRange :=
  [{ enable := true, low := 40000, high := 40999, cls := 2 }, { enable := true, low := 40210, high := 40219, cls := 1 },
   { low := 31000, high := 31999, cls := 3 }, { enable := true, low := 31500, high := 31000, cls := 3 },
   { enable := true, low := 31000, high := 31999, cls := 1 }, {}, {}, {}]

theorem test_5_3_classes :
    Rules.classOfChars { ranges := rangesOf53 } (chars [4, 0, 2, 1, 3]) = 2 ∧
      Rules.classOfChars { ranges := rangesOf53 } (chars [3, 1, 5, 0, 8]) = 1 ∧
      Rules.classOfChars { ranges := rangesOf53 } (chars [5, 5, 5, 5, 5]) = 0 ∧
      Rules.classOfChars { ranges := rangesOf53 } (52 :: 79 :: chars [2, 1, 3]) = 0 := by decide
theorem test_5_6_ordinals :
    [1, 2, 3, 63].map (dispositionOf { p := 1, s := 1 }) = [.preserve, .stock, .surplus, .surplus] ∧
      [1, 2, 3, 5, 6].map (dispositionOf { p := 2, s := 3 }) = [.preserve, .preserve, .stock, .stock, .surplus] ∧
      [1, 2].map (dispositionOf { p := 1, s := 0 }) = [.preserve, .surplus] := by decide
theorem test_7_10_deferrals :
    [0, 1, 2, 3, 4].map (deferral 1 false) = [26, 170, 282, 394, 506] ∧
      [0, 1, 2, 3, 4].map (deferral 3 false) = [30, 206, 318, 430, 46] ∧
      [0, 1, 2, 3, 4].map (deferral 11 false) = [46, 350, 462, 78, 190] ∧
      [0, 1, 2, 3, 4].map (deferral 20 false) = [64, 512, 128, 240, 352] ∧
      [0, 1, 2, 3, 4].map (deferral 31 true) = [150, 278, 390, 502, 614] := by decide
theorem test_6_1_bit_times : [0, 1, 2, 3].map (fun r => bitPeriods (BitVec.ofNat 2 r)) = [208, 104, 52, 26] := by decide
theorem test_6_5_check_value : checkByte 0xFFFF 0 = 57840 := by decide
theorem test_7_8_headers : headerByte .claim 3 = 67 ∧ headerByte .claim 11 = 75 := by decide
theorem test_6_1_character_bits :
    characterBits 75 true = [false, true, true, false, true, false, false, true, false, true, true] := by decide
theorem test_R121_two_samples_disagreeing_are_noise :
    receive ((samplesOf (characterBits 75 true)).set 22 false) = .character 75 true true := by decide
theorem test_R120_false_start : receive (List.replicate 4 false ++ List.replicate 300 true) = .falseStart := by decide
theorem test_R122_framing_error :
    receive (List.replicate 180 false ++ List.replicate 100 true) = .framingError ∧
      receive (List.replicate 300 false) = .lineBreak := by decide
/-- A state whose roster holds lane 9 as PRESENT with this last sequence. -/
def heard (last : Byte) : State :=
  { claim := { roster := (List.replicate 31 ({} : LaneRecord)).set 8 ⟨true, last, .lane⟩ } }

theorem test_R65_next_after_255 : (rosterCheck .claim 9 0 (keyA 0) (heard 255)).tally.epoch = 0 := by decide
theorem test_R65_same_sequence_is_a_gap : (rosterCheck .claim 9 44 (keyA 0) (heard 44)).tally.epoch = 1 := by decide

/-! ### 9.9: nesting under one ATTN line -/

def unitOf99 : ConditionUnit := { mask := 0x003F, routing := 0x0008 }
def y1 : ConditionUnit := unitOf99.occurrence .deadline { condition := .deadline, source := .ownItem 12, value := some 0 } .notify
def y2 : ConditionUnit := y1.occurrence .massMismatch { condition := .massMismatch, source := .ownItem 14 } .defer
def y4 : ConditionUnit :=
  (y2.acknowledge .deadline).occurrence .deadline { condition := .deadline, source := .ownItem 15, value := some 3 } .notify
def y5 : ConditionUnit :=
  y4.occurrence .lineContention { condition := .lineContention, source := .station, value := some 5 } .notify

theorem test_9_9_Y2 : y2.deferred = 0x20 ∧ y2.pending = 0x08 ∧ attnLevel { state := .run } y2 = true := by decide
theorem test_9_9_Y3 : attnLevel { state := .run } (y2.acknowledge .deadline) = false ∧
    stopLevel { state := .run } (y2.acknowledge .deadline) = true := by decide
theorem test_9_9_Y4 : y4.pending = 0x08 ∧ y4.inService = 0x08 ∧ attnLevel { state := .run } y4 = false ∧
    (y4.detail .deadline).map Detail.source = some (.ownItem 15) := by decide
theorem test_9_9_Y6 : attnLevel { state := .run } y5 = true ∧ y5.releaseDeferred.pending = 0x2C ∧
    y5.releaseDeferred.deferred = 0 := by decide

/-! ### 8.8: one list, five events -/

def digitsOf (ds : List Nat) : List (BitVec 4) := ds.map (BitVec.ofNat 4)
def digitsA : List (BitVec 4) := digitsOf [4, 0, 2, 1, 3, 0, 0, 5, 8, 7, 1, 6, 7]
def listOf88 : List WatchEntry :=
  [{ valid := true, digits := digitsA, part := none, events := 4 },
   { valid := true, digits := digitsA, part := some 12, events := 3, divert := true },
   { valid := true, digits := digitsOf [3, 1, 5, 0, 8, 0, 2, 2, 6, 0, 1, 7, 9], part := some 0, events := 8, endOfList := true },
   { valid := true, digits := digitsA, part := some 12, events := 8 }] ++ List.replicate 12 ({} : WatchEntry)
def lane6 : State :=
  { inState .run with
    watch := listOf88
    tally := { table := [{ entryA 12 1 with pins := 0 }, { entryA 7 1 with pins := 0 }] } }
def w1 : State := after .present (asked lane6 1 (idA ++ [12, 0, 0, 0]))
/-- The state with a frame in receive slot 1. -/
def arrives (f : StoredFrame) (s : State) : State := { s with line := { s.line with slot1 := some f } }
def claim12 (lane : Lane) : StoredFrame := ⟨.claim, lane, claimPayload 1 (keyA 12) 1 none, 0⟩
def w2 : State := after .peerClaim (arrives (claim12 9) w1)
def w3 : State := after .peerClaim (arrives (claim12 4) w2)
def w4 : State := after .peerCorrection (arrives ⟨.correction, 3, correctionPayload 1 8 1 (keyA 7) 4, 0⟩ w3)

theorem test_8_8_W1 : w1.watch.map WatchEntry.hits = [0, 1] ++ List.replicate 14 0 ∧
    w1.arrival.items.map Item.reason = [.watch] ∧ (w1.cond.detail .watchMatch).map Detail.value = some (some 1) := by decide
theorem test_8_8_W2 : w2.watch.map WatchEntry.hits = [1, 2] ++ List.replicate 14 0 ∧
    w2.tally.table.map Entry.count = [2, 1] := by decide
theorem test_8_8_W3 : w3.watch.map WatchEntry.hits = [1, 3] ++ List.replicate 14 0 := by decide
theorem test_8_8_W4 : w4.watch.map WatchEntry.hits = [2, 3] ++ List.replicate 14 0 := by decide

/-! ## Witnesses: requests

Each witness shows a state and operands that meet the hypotheses of the obligation it is named after, clause by clause, at
the boundary values; where a command's result is short it is shown as well. -/

/-- Handling can begin of a request put into the empty buffer. -/
theorem serving (x : StationState) (kind : Byte) (payload : List Byte) :
    Serving (asked (inState x) kind payload) { kind := kind, length := byteOf payload.length, payload := payload } [] :=
  ⟨rfl, rfl, by show 0 < 4; decide, rfl⟩

theorem servingIn (s : State) (kind : Byte) (payload : List Byte) (hp : s.station.powerGood = true)
    (hc : s.port.clearing = false) (ho : replyCount s.port.output < 4) :
    Serving (asked s kind payload) { kind := kind, length := byteOf payload.length, payload := payload } [] :=
  ⟨hp, hc, ho, rfl⟩

/-- The request as it stands in the buffer. -/
def req (kind : Byte) (payload : List Byte) : Request := { kind := kind, length := byteOf payload.length, payload := payload }

theorem witness_WrongFormRefused :
    Serving (asked State.reset 1 [7]) (req 1 [7]) [] ∧ (req 1 [7]).wrongForm ∧ (req 2 [2, 4, 1, 1, 1, 1]).wrongForm ∧
      (req 10 [32]).wrongForm ∧ (req 10 [31]).formOk = true ∧ (req 14 [16]).formOk = true ∧ (req 14 [17]).wrongForm ∧
      (req 0 []).kind.toNat = 0 ∧ 15 < (req 16 []).kind.toNat ∧ 15 < (req 255 []).kind.toNat :=
  ⟨serving .configuring 1 [7], show (1 : Nat) ≠ 17 by decide, Or.inr (show 3 < 4 by decide),
    Or.inr (Or.inr (show 31 < 32 by decide)), by decide, by decide, Or.inr (show 16 < 17 by decide), by decide, by decide,
    by decide⟩

theorem witness_ConfigureRuleUnit :
    Serving (asked (inState .configuring) 2 [1, 0, 99, 0, 4, 101]) { kind := 2, length := 6, payload := [1, 0, 99, 0, 4, 101] } [] ∧
      sent (after .configureTimes (asked (inState .configuring) 2 [1, 0, 99, 0, 4, 101])) = [[2, 1, 1, 0, 100, 0, 5, 100]] ∧
      sent (after .configureTimes (asked (inState .configuring) 2 [1, 0, 0x88, 0x13, 100, 5])) =
        [[2, 0, 1, 0, 0x88, 0x13, 100, 5]] ∧
      sent (after .configureClass (asked (inState .configuring) 2 [2, 0, 0, 7, 255, 255])) = [[2, 1, 2, 0, 1, 6, 255, 255]] ∧
      sent (after .configureClass (asked (inState .configuring) 2 [2, 3, 2, 0, 1, 0])) = [[2, 0, 2, 3, 2, 0, 1, 0]] ∧
      sent (after .configureClass (asked (inState .run) 2 [2, 4, 2, 0, 1, 0])) = [[2, 5]] ∧
      sent (after .configureRange (asked (inState .configuring) 2 [3, 7, 9, 0xA0, 0x86, 1, 0, 0, 0, 4])) =
        [[2, 1, 3, 7, 1, 0x9F, 0x86, 1, 0, 0, 0, 3]] ∧
      sent (after .configureRange (asked (inState .configuring) 2 [3, 8, 1, 0, 0, 0, 0, 0, 0, 0])) = [[2, 5]] ∧
      sent (after .configureRange (asked (inState .run) 2 [3, 0, 1, 0, 0, 0, 0, 0, 0, 0])) = [[2, 3]] := by
  refine ⟨serving .configuring 2 _, ?_⟩; decide

theorem witness_ConfigureRuleUnit_refused :
    Serving (asked (inState .joining) 2 [1, 0, 99, 0, 4, 101]) (req 2 [1, 0, 99, 0, 4, 101]) [] ∧
      (req 2 [1, 0, 99, 0, 4, 101]).formOk = true ∧ (req 2 [1, 0, 99, 0, 4, 101]).row = .configureTimes ∧
      (req 2 [2, 3, 2, 0, 1, 0]).formOk = true ∧ (req 2 [2, 3, 2, 0, 1, 0]).row = .configureClass ∧
      (req 2 [3, 7, 1, 0, 0, 0, 0, 0, 0, 0]).formOk = true ∧ (req 2 [3, 7, 1, 0, 0, 0, 0, 0, 0, 0]).row = .configureRange := by
  refine ⟨serving .joining 2 _, ?_⟩; decide

theorem witness_ConfigureConditionUnit :
    Serving (asked (inState .configuring) 2 [4, 0, 0xFF, 0x80]) { kind := 2, length := 4, payload := [4, 0, 0xFF, 0x80] } [] ∧
      (after .configureMask (asked (inState .configuring) 2 [4, 0, 0xFF, 0x80])).cond.mask = 0x80FF ∧
      (after .configureStopRouting (asked (inState .configuring) 2 [5, 0, 8, 1])).cond.routing = 0x0108 ∧
      (after .configureAutomaticEnd (asked (inState .configuring) 2 [6, 0, 2])).cond.autoEnd = true ∧
      sent (after .configureAutomaticEnd (asked (inState .configuring) 2 [6, 0, 2])) = [[2, 0, 6, 0, 1]] ∧
      sent (after .configureMask (asked (inState .run) 2 [4, 0, 0xFF, 0x80])) = [[2, 3]] ∧
      sent (after .configureMask (asked (inState .run) 2 [4, 1, 0xFF, 0x80])) = [[2, 5]] ∧
      (req 2 [5, 0, 8, 1]).row = .configureStopRouting ∧ (req 2 [6, 0, 2]).row = .configureAutomaticEnd ∧
      (req 2 [5, 0, 8, 1]).formOk = true ∧ (req 2 [6, 0, 2]).formOk = true ∧ (req 2 [4, 0, 8, 1]).formOk = true := by
  refine ⟨serving .configuring 2 _, ?_⟩; decide

theorem witness_StationRequests :
    Serving (asked (inState .configuring) 3 []) { kind := 3, length := 0, payload := [] } [] ∧
      sent (after .commence (asked (inState .configuring) 3 [])) = [[3, 0]] ∧
      (after .commence (asked (inState .configuring) 3 [])).station.state = .joining ∧
      sent (after .commence (asked (inState .joining) 3 [])) = [[3, 3]] ∧
      Serving (asked (inState .run) 4 []) { kind := 4, length := 0, payload := [] } [] ∧
      (after .pause (asked (inState .run) 4 [])).station.state = .paused ∧
      (after .pause (asked (inState .paused) 4 [])).station.state = .paused ∧
      sent (after .pause (asked (inState .joining) 4 [])) = [[4, 3]] ∧
      Serving (asked (inState .paused) 5 []) { kind := 5, length := 0, payload := [] } [] ∧
      (after .resume (asked (inState .paused) 5 [])).station.state = .run ∧
      sent (after .resume (asked (inState .run) 5 [])) = [[5, 0]] ∧
      sent (after .resume (asked (inState .halted) 5 [])) = [[5, 3]] := by
  refine ⟨serving .configuring 3 _, by decide, by decide, by decide, serving .run 4 _, by decide, by decide, by decide,
    serving .paused 5 _, by decide, by decide, by decide⟩

/-- Seven undecided items and a decided one, with no DISPOSITION record sent: 8 places, and 8 needed. -/
def fullQueue (x : StationState) : State :=
  { inState x with
    tally := { table := [{ entryA 0 1 with pins := 7 }] }
    arrival := { items := [itemA 0 .queued, itemA 1 .queued, { itemA 2 .decided with pinned := false }, itemA 3 .queued,
                   itemA 4 .queued, itemA 5 .queued, itemA 6 .queued, itemA 7 .queued], nextTag := 8, accepted := 8 } }

theorem witness_ClearWorkEndsWorkInHand :
    Serving (asked (fullQueue .run) 6 []) { kind := 6, length := 0, payload := [] } [] ∧
      ((fullQueue .run).arrival.items.map Item.tag).Nodup ∧
      dispositionCount (fullQueue .run).port.output + (fullQueue .run).arrival.items.length = 8 ∧
      (after .clearWork (asked (fullQueue .run) 6 [])).port.output.length = 9 ∧
      (after .clearWork (asked (fullQueue .run) 6 [])).tally.table.map Entry.pins = [0] ∧
      ((after .clearWork (asked (fullQueue .joining) 6 [])).access.queue.map TxEntry.owner = [.greeting]) ∧
      (fullQueue .joining).claim.greetingTimer = none ∧ (fullQueue .joining).line.holder = none := by
  refine ⟨servingIn _ _ _ rfl rfl (by decide), ?_⟩; decide

/-- The same queue behind one unsent DISPOSITION record: a ninth record has no room. -/
def crowdedQueue (x : StationState) : State := { fullQueue x with port := { output := [⟨241, [9]⟩] } }

theorem witness_ClearWorkEndsWorkInHand_no_room :
    Serving (asked (crowdedQueue .run) 6 []) { kind := 6, length := 0, payload := [] } [] ∧
      (inState .configuring).station.state.transmits = false ∧ (crowdedQueue .run).station.state.transmits = true ∧
      sent (after .clearWork (asked (inState .configuring) 6 [])) = [[6, 3]] ∧
      sent (after .clearWork (asked (fullQueue .halted) 6 [])) = [[6, 3]] ∧
      sent (after .clearWork (asked (inState .strapFault) 6 [])) = [[6, 3]] ∧
      (after .clearWork (asked (crowdedQueue .run) 6 [])).port.clearing = true ∧
      (after .clearWork (asked (crowdedQueue .run) 6 [])).arrival.items.map Item.tag = [7] ∧
      (after .clearWork (asked (crowdedQueue .run) 6 [])).port.output.map OutRecord.kind = List.replicate 8 241 := by
  refine ⟨servingIn _ _ _ rfl rfl (by decide), ?_⟩; decide

def watchPayload (i : Byte) (cs : List Byte) (part : Nat) : List Byte := [i, 1] ++ cs ++ wordBytes part ++ [15, 1, 0]

theorem witness_LoadWatchEntryReplaces :
    Serving (asked (inState .paused) 7 (watchPayload 15 idA 65535))
        { kind := 7, length := 20, payload := [15, 1] ++ idA ++ [255, 255, 15, 1, 0] } [] ∧
      ((after .loadWatchEntry (asked (inState .paused) 7 (watchPayload 15 idA 65535))).watch[15]?) =
        some { valid := true, digits := digitsA, part := none, events := 15, divert := true } ∧
      ((after .loadWatchEntry (asked lane6 7 (watchPayload 0 idA 9999))).watch[0]?).map WatchEntry.part = some (some 9999) ∧
      (sent (after .loadWatchEntry (asked w2 7 (watchPayload 1 idA 9999)))).map (List.drop 17) =
        [[], [12, 0, 3, 1, 0, 2]] ∧
      sent (after .loadWatchEntry (asked (inState .run) 7 (watchPayload 0 idA 10000))) = [[7, 5]] ∧
      sent (after .loadWatchEntry (asked (inState .halted) 7 (watchPayload 16 idA 0))) = [[7, 5]] ∧
      sent (after .loadWatchEntry (asked (inState .halted) 7 (watchPayload 0 idA 0))) = [[7, 3]] ∧
      sent (after .loadWatchEntry (asked (inState .run) 7 (watchPayload 0 (idA.set 12 58) 0))) = [[7, 5]] ∧
      sent (after .loadWatchEntry (asked (inState .run) 7 (watchPayload 0 (idA.set 0 47) 0))) = [[7, 5]] := by
  refine ⟨serving .paused 7 _, ?_⟩; decide

/-- A station whose table holds title A with part number 12 below another entry. -/
def holdsA (x : StationState) (parity : Bool) : State :=
  { inState x with tally := { table := [entryA 7 63, { entryA 12 2 with pins := 0, parityOk := parity }] } }

theorem witness_ReadEntryReplies :
    Serving (asked (holdsA .run true) 8 (idA ++ [12, 0])) { kind := 8, length := 15, payload := idA ++ [12, 0] } [] ∧
      findEntry (holdsA .run true).tally.table (keyA 12) = some { entryA 12 2 with pins := 0 } ∧
      sent (after .readEntry (asked (holdsA .halted true) 8 (idA ++ [12, 0]))) = [[8, 0, 2, 100, 2, 1, 0, 0, 0, 2, 0]] ∧
      sent (after .readEntry (asked (holdsA .run true) 8 (idA ++ [13, 0]))) = [[8, 2]] ∧
      sent (after .readEntry (asked (holdsA .run true) 8 (idA.set 5 79 ++ [12, 0]))) = [[8, 2]] ∧
      sent (after .readEntry (asked (holdsA .strapFault true) 8 (idA ++ [12, 0]))) = [[8, 3]] ∧
      sent (after .readEntry (asked (holdsA .configuring false) 8 (idA ++ [12, 0]))) = [[8, 2]] ∧
      (after .readEntry (asked (holdsA .configuring false) 8 (idA ++ [12, 0]))).station.state = .halted := by
  refine ⟨servingIn _ _ _ rfl rfl (by decide), ?_⟩; decide

theorem witness_ReadItemReplies :
    Serving (asked (fullQueue .halted) 9 [8]) { kind := 9, length := 1, payload := [8] } [] ∧
      sent (after .readItem (asked (fullQueue .halted) 9 [8])) =
        [[9, 0, 7] ++ idA ++ [0, 0, 88, 2, 0, 0, 1, 0, 0, 0, 0, 220, 5, 0, 0, 255, 0, 0]] ∧
      sent (after .readItem (asked (fullQueue .halted) 9 [9])) = [[9, 2]] ∧
      sent (after .readItem (asked (fullQueue .run) 9 [0])) = [[9, 2]] ∧
      sent (after .readItem (asked (inState .strapFault) 9 [1])) = [[9, 3]] := by
  refine ⟨servingIn _ _ _ rfl rfl (by decide), ?_⟩; decide

theorem witness_ReadRosterAndStatusReply :
    Serving (asked (heard 44) 10 [9]) { kind := 10, length := 1, payload := [9] } [] ∧
      sent (after .readRoster (asked (heard 44) 10 [9])) = [[10, 0, 1, 44, 1]] ∧
      sent (after .readRoster (asked { heard 44 with claim := { (heard 44).claim with ownSeq := 3 } } 10 [1])) =
        [[10, 0, 0, 3, 0]] ∧
      sent (after .readRoster (asked (inState .run) 10 [31])) = [[10, 0, 0, 0, 0]] ∧
      sent (after .readRoster (asked (inState .run) 10 [32])) = [[10, 5]] ∧
      sent (after .readRoster (asked (inState .run) 10 [0])) = [[10, 5]] ∧
      sent (after .readRoster (asked (inState .strapFault) 10 [31])) = [[10, 3]] ∧
      Serving (asked (inState .run) 11 []) { kind := 11, length := 0, payload := [] } [] ∧
      sent (after .readStatus (asked (inState .run) 11 [])) = [[11, 0, 3, 0, 0, 0, 0, 0, 0, 0, 0, 0, 0, 0]] ∧
      sent (after .readStatus (asked (inState .strapFault) 11 [])) = [[11, 3]] := by
  refine ⟨servingIn _ _ _ rfl rfl (by decide), by decide, by decide, by decide, by decide, by decide, by decide,
    serving .run 11 _, by decide, by decide⟩

/-- A station with the condition unit of 9.9 at its third step: DEADLINE in service, MASS MISMATCH deferred. -/
def attends (x : StationState) (u : ConditionUnit) : State := { inState x with cond := u }

/-- LINE CONTENTION and TALLY GAP pending, with a title and without, and PORT OVERRUN recorded. -/
def twoPending : ConditionUnit :=
  (({ mask := 0xFFFF } : ConditionUnit).occurrence .tallyGap
    { condition := .tallyGap, source := .line 9, title := some { chars := idA, part := 12 }, value := some 2 } .notify).occurrence
    .lineContention { condition := .lineContention, source := .station } .notify

theorem witness_ReadConditionReplies :
    Serving (asked (attends .run y2) 12 [6]) { kind := 12, length := 1, payload := [6] } [] ∧
      (6 : Byte).toNat = Condition.massMismatch.rank ∧ (y2.detail .massMismatch).map Detail.value = some none ∧
      (twoPending.detail .tallyGap).map Detail.title = some (some { chars := idA, part := 12 }) ∧
      sent (after .readCondition (asked (attends .run twoPending) 12 [8])) =
        [[12, 0, 8, 5, 1, 9, 1] ++ idA ++ [12, 0, 1, 2, 0, 0]] ∧
      y2.detail .portOverrun = none ∧ sent (after .readCondition (asked (attends .run y2) 12 [16])) = [[12, 2]] ∧
      sent (after .readCondition (asked (attends .run y2) 12 [1])) = [[12, 2]] ∧
      sent (after .readCondition (asked (inState .run) 12 [0])) = [[12, 5]] ∧
      sent (after .readCondition (asked (inState .run) 12 [17])) = [[12, 5]] ∧
      sent (after .readCondition (asked (inState .strapFault) 12 [1])) = [[12, 3]] := by
  refine ⟨servingIn _ _ _ rfl rfl (by decide), ?_⟩; decide

theorem witness_AckAttentionTakesHighest :
    Serving (asked (attends .run twoPending) 13 []) { kind := 13, length := 0, payload := [] } [] ∧
      has twoPending.pending .lineContention = true ∧
      (∀ x, has twoPending.pending x = true → Condition.lineContention.rank ≤ x.rank) ∧
      (twoPending.detail .lineContention).isSome = true ∧
      (after .ackAttention (asked (attends .run twoPending) 13 [])).cond.inService = 4 ∧
      (after .ackAttention (asked (attends .run { twoPending with autoEnd := true }) 13 [])).cond.inService = 0 ∧
      (after .ackAttention (asked (attends .run twoPending) 13 [])).cond.attn = false ∧
      sent (after .ackAttention (asked (inState .run) 13 [])) = [[13, 2]] ∧
      sent (after .ackAttention (asked (inState .strapFault) 13 [])) = [[13, 3]] := by
  refine ⟨servingIn _ _ _ rfl rfl (by decide), by decide, ?_, by decide, by decide, by decide, by decide, by decide, by decide⟩
  intro x; cases x <;> decide

/-- DEADLINE and LINE CONTENTION in service. -/
def bothServed : ConditionUnit := { y1 with pending := 0, inService := 0xC }

theorem witness_EndAttentionEndsService :
    Serving (asked (attends .run bothServed) 14 [0]) { kind := 14, length := 1, payload := [0] } [] ∧
      has bothServed.inService .lineContention = true ∧
      (∀ x, has bothServed.inService x = true → Condition.lineContention.rank ≤ x.rank) ∧
      sent (after .endAttention (asked (attends .run bothServed) 14 [0])) = [[14, 0, 3]] ∧
      sent (after .endAttention (asked (attends .run bothServed) 14 [4])) = [[14, 0, 4]] ∧
      (after .endAttention (asked (attends .run bothServed) 14 [4])).cond.inService = 4 ∧
      has bothServed.inService .portOverrun = false ∧
      sent (after .endAttention (asked (attends .halted bothServed) 14 [16])) = [[14, 2]] ∧
      sent (after .endAttention (asked (attends .halted bothServed) 14 [17])) = [[14, 5]] ∧
      sent (after .endAttention (asked (inState .run) 14 [0])) = [[14, 2]] ∧
      sent (after .endAttention (asked (inState .strapFault) 14 [0])) = [[14, 3]] := by
  refine ⟨servingIn _ _ _ rfl rfl (by decide), by decide, ?_, by decide⟩
  intro x; cases x <;> decide

theorem witness_ClearConditionsClears :
    Serving (asked (attends .run y2) 15 [0x20, 0]) { kind := 15, length := 2, payload := [0x20, 0] } [] ∧
      (after .clearConditions (asked (attends .run y2) 15 [0x28, 0x80])).cond.recorded = 0 ∧
      (after .clearConditions (asked (attends .run y2) 15 [0x28, 0x80])).cond.deferred = 0 ∧
      (after .clearConditions (asked (attends .run y2) 15 [0x28, 0x80])).cond.pending = 8 ∧
      has (0x20 : CondSet) .massMismatch = true ∧ has y2.pending .massMismatch = false ∧ y2.details.length = 16 ∧
      sent (after .clearConditions (asked (attends .halted y2) 15 [0x20, 0])) = [[15, 3]] ∧
      sent (after .clearConditions (asked (attends .strapFault y2) 15 [0x20, 0])) = [[15, 3]] := by
  refine ⟨servingIn _ _ _ rfl rfl (by decide), ?_⟩; decide

/-! ## Witnesses: one step, POWER GOOD, shared effects, lane port -/

/-- A state without POWER GOOD. -/
def unpowered : State := { station := { powerGood := false } }

theorem witness_StepRunsFrontCommand : unpowered.pending = [] ∧ unpowered.station.powerGood = false := by decide

/-- The state after one step. -/
def stepped (s : State) : State :=
  match step s with
  | .next t => t
  | .fault _ | .refused _ => s

/-- An idle RUN station one period before a dwell clock tick, with timers running. -/
def oneBefore (x : StationState) : State :=
  { inState x with
    clock := { msPhase := 23999 }
    arrival := { items := [{ itemA 0 .settling with settle := some 5 }], nextTag := 1, accepted := 1, belt := true }
    line := { receiver := .idle }
    claim := { corrections := [⟨0, 9, 3, keyA 0, 4, .holding, 7, none⟩], greetingTimer := some 2 } }

theorem witness_ReferencePeriodPasses :
    (oneBefore .run).pending = [] ∧ (oneBefore .run).station.powerGood = true ∧ dueCommand (oneBefore .run) = none ∧
      (stepped (oneBefore .run)).pending = [.dwellClockTick true] ∧
      (stepped (oneBefore .run)).arrival.items.map Item.settle = [some 4] ∧
      dueCommand (oneBefore .configuring) = none ∧ (inState .run).clock.msPhase = 0 ∧
      (stepped (oneBefore .configuring)).arrival.items.map Item.settle = [some 5] := by decide

theorem witness_InactiveWithoutPowerGood :
    (inState .run).station.powerGood = true ∧ unpowered.station.powerGood = false ∧
      after (.requestCharacterReceived 1) unpowered = unpowered ∧ after .powerGoodFall unpowered = unpowered ∧
      (after .powerGoodFall { inState .halted with cond := { stop := true } }).cond.stop = false := by decide

theorem witness_LaneResetClears :
    (fullQueue .halted).station.powerGood = true ∧ (fullQueue .halted).station.state ≠ .strapFault ∧
      (after .laneReset (fullQueue .halted)).station.state = .configuring ∧
      (after .laneReset (fullQueue .halted)).tally.table = [] ∧
      after .laneReset (inState .strapFault) = inState .strapFault ∧
      (after .laneReset { inState .run with port := { output := [⟨240, []⟩, ⟨240, []⟩], outElapsed := 1040 } }).port.output =
        [⟨240, []⟩] ∧
      (after .laneReset { inState .run with port := { output := [⟨240, []⟩], outElapsed := 1039 } }).port.output = [] := by
  decide

theorem test_power_good_with_lane_strap_0 :
    (after (.powerGoodRise 0 3 true) (fullQueue .run)).station.state = .strapFault ∧
      (after (.powerGoodRise 31 3 true) (fullQueue .strapFault)).station.state = .configuring := by decide

theorem witness_RefreshFollows :
    (inState .run).access.unit = .quiet ∧
      (refresh { inState .run with access := { queue := [⟨.greeting, 0, 0, false, false⟩] } }).access.unit = .deferring ∧
      (refresh { inState .halted with access := { queue := [⟨.greeting, 0, 0, false, false⟩], unit := .deferring } }).access.unit =
        .quiet ∧
      (refresh { inState .run with access := { unit := .jamming } }).access.unit = .jamming ∧
      (refresh { inState .run with access := { unit := .sending } }).access.unit = .sending := by decide

/-- A station with one undecided item and a condition unit. -/
def busyWith (x : StationState) (u : ConditionUnit) : State :=
  { inState x with arrival := { items := [itemA 12 .queued], nextTag := 13, accepted := 13 }, cond := u }

/-- The three of the four flags an occurrence can move, for a condition. -/
def flagsOf (s : State) (c : Condition) : Bool × Bool × Bool :=
  (has s.cond.recorded c, has s.cond.deferred c, has s.cond.pending c)

/-- The clauses of the occurrence statement: STRAP FAULT; a condition that waits; one of rank 2 and one of rank 5; one of
rank 6 deferred, and in service; one disabled, fresh and known. -/
theorem witness_OccurrenceFollowsTables :
    (inState .strapFault).station.state = .strapFault ∧ (inState .run).cond.details.length = 16 ∧
      has y2.deferred .massMismatch = true ∧
      ((occur .massMismatch { condition := .massMismatch, source := .ownItem 12 } (busyWith .run y2)).cond.detail
        .massMismatch).map Detail.again = some true ∧
      has unitOf99.mask .duplicateLane = true ∧
      flagsOf (occur .duplicateLane { condition := .duplicateLane, source := .line 1 } (busyWith .run { mask := 0 }))
        .duplicateLane = (true, false, true) ∧
      flagsOf (occur .lateCorrection { condition := .lateCorrection, source := .line 1 } (busyWith .run {}))
        .lateCorrection = (true, false, true) ∧
      flagsOf (occur .massMismatch { condition := .massMismatch, source := .ownItem 12 } (busyWith .run unitOf99))
        .massMismatch = (true, true, false) ∧
      flagsOf (occur .massMismatch { condition := .massMismatch, source := .ownItem 12 }
        (busyWith .run { unitOf99 with inService := 0x20 })) .massMismatch = (true, false, true) ∧
      flagsOf (occur .massMismatch { condition := .massMismatch, source := .ownItem 12 } (busyWith .paused unitOf99))
        .massMismatch = (true, false, true) ∧
      flagsOf (occur .massMismatch { condition := .massMismatch, source := .ownItem 12 } (attends .run unitOf99))
        .massMismatch = (true, false, true) ∧
      flagsOf (occur .lineContention { condition := .lineContention, source := .station } (busyWith .run { mask := 0 }))
        .lineContention = (true, false, false) := by decide

/-- Items at a decision: pinned with the last pin of an entry with count 0, and not pinned. -/
def deciding (pinned : Bool) (count : Nat) : State :=
  { inState .run with
    arrival := { items := [{ itemA 7 .settling with pinned := pinned, ordinal := some 3, corrected := true, watchMatch := some 2 }]
                 nextTag := 8, accepted := 8 }
    tally := { table := [entryA 0 count] } }

theorem witness_DecisionSteps :
    ((deciding true 0).arrival.find 7).map Item.stage = some .settling ∧
      (decideItem 7 .hold .deadline (deciding true 0)).tally.table = [] ∧
      (decideItem 7 .hold .deadline (deciding true 1)).tally.table.map Entry.pins = [0] ∧
      (decideItem 7 .hold .deadline (deciding false 1)).tally.table.map Entry.pins = [1] ∧
      (decideItem 7 .hold .deadline (deciding true 1)).cond.recorded = 0x2048 ∧
      (decideItem 7 .hold .halted (deciding true 1)).cond.recorded = 0 := by decide

/-- A receiving station with every kind of work in hand and a CLEAR WORK in handling, or in CONFIGURING with none. -/
def haltsWith (room : Bool) : State :=
  { fullQueue .run with
    line := { receiver := .inCharacter, assembler := .assembling ⟨0x49, [], 0⟩, discards := [⟨9, 2⟩] }
    claim := { corrections := [⟨0, 9, 3, keyA 0, 4, .held, 0, none⟩], greetingTimer := some 7 }
    access := { queue := [⟨.greeting, 0, 0, false, true⟩], unit := .sending, flight := some ⟨.greeting, [0, 0]⟩
                wave := frameBits .greeting 1 [0, 0], txElapsed := 1 }
    cond := { deferred := 0x20 }
    port := { clearing := true, buffer := [⟨6, 0, []⟩], output := if room then [] else [⟨241, [9]⟩] } }

theorem witness_DecisionSteps_halt :
    Condition.duplicateLane.rank ≤ 2 ∧ (inState .halted).station.state.receives = false ∧
      (haltsWith true).station.state.receives = true ∧ ((haltsWith true).arrival.items.map Item.tag).Nodup ∧
      let full := memoryFault (keyA 0) (haltsWith true)
      let crowded := memoryFault (keyA 0) (haltsWith false)
      full.station.state = .halted ∧ full.arrival.items = [] ∧ full.port.clearing = false ∧
        full.port.output.map OutRecord.kind = List.replicate 8 241 ++ [240] ∧ full.cond.pending = 0x21 ∧
        full.access.unit = .jamming ∧ full.access.wave = (frameBits .greeting 1 [0, 0]).take 11 ++ jamLevels ∧
        crowded.arrival.items.map Item.tag = [7] ∧ crowded.port.clearing = true ∧ crowded.cond.deferred = 0x20 := by decide

theorem witness_RequestCharacterAssembled :
    ((inState .run).port.assembler = .idle) ∧
      (after (.requestCharacterReceived 3) (inState .run)).port.assembler = .assembling 3 none [] 0 ∧
      (afterAll [.requestCharacterReceived 3, .requestCharacterReceived 0] (inState .run)).port.complete = [⟨3, 0, []⟩] ∧
      (afterAll [.requestCharacterReceived 9, .requestCharacterReceived 1] (inState .run)).port.assembler =
        .assembling 9 (some 1) [] 0 ∧
      (afterAll [.requestCharacterReceived 9, .requestCharacterReceived 1, .requestCharacterReceived 8]
        (inState .run)).port.complete = [⟨9, 1, [8]⟩] ∧
      (afterAll [.requestCharacterReceived 9, .requestCharacterReceived 41, .requestCharacterReceived 8]
        (inState .run)).port.assembler = .assembling 9 (some 41) [] 1 ∧
      (afterAll [.requestCharacterReceived 9, .requestCharacterReceived 40, .requestCharacterReceived 8]
        (inState .run)).port.assembler = .assembling 9 (some 40) [8] 1 ∧
      (afterAll [.lanePortFramingError, .requestCharacterReceived 9] (inState .run)).port.assembler = .muted := by decide

theorem witness_RequestRecordTransported :
    (inState .run).station.powerGood = true ∧ (inState .run).port.assembler = .idle ∧
      ([] : List Byte).length = (0 : Byte).toNat ∧ (List.replicate 40 (5 : Byte)).length = (40 : Byte).toNat ∧
      (List.replicate 41 (5 : Byte)).length = (41 : Byte).toNat ∧ (List.replicate 255 (5 : Byte)).length = (255 : Byte).toNat :=
  ⟨rfl, rfl, rfl, List.length_replicate, List.length_replicate, List.length_replicate⟩

/-- A complete record behind `n` requests in the buffer. -/
def behindBuffer (n : Nat) : State :=
  { inState .run with port := { complete := [⟨9, 1, [3]⟩], buffer := List.replicate n ⟨11, 0, []⟩ } }

theorem witness_LanePortEvents :
    (behindBuffer 3).port.buffer.length < 4 ∧ (after .requestComplete (behindBuffer 3)).port.buffer.length = 4 ∧
      4 ≤ (behindBuffer 4).port.buffer.length ∧ (after .requestComplete (behindBuffer 4)).port.buffer.length = 4 ∧
      ((after .requestComplete (behindBuffer 4)).cond.detail .portOverrun).map Detail.value = some (some 9) ∧
      (after .requestGapTimeout { inState .run with port := { assembler := .assembling 9 none [] 0 } }).port.assembler = .idle ∧
      (after .outputRecordSent { inState .halted with port := { output := [⟨240, [1]⟩, ⟨241, []⟩] } }).port.output =
        [⟨241, []⟩] := by decide

/-- A reply in sending at a time. Its first bit is the start bit of kind byte 240, its fifth data bit a 1. -/
def sendingReply (time : Nat) : State := { inState .run with port := { output := [⟨240, [1]⟩], outElapsed := time } }

theorem witness_LanePortEvents_line :
    (OutRecord.mk 240 [1]).bits[0]? = some false ∧ (OutRecord.mk 240 [1]).bits[5]? = some true ∧
      (OutRecord.mk 240 [1]).bits[29]? = some true ∧ (OutRecord.mk 240 [1]).bits[30]? = none ∧
      portLevel (sendingReply 103) = false ∧ portLevel (sendingReply (104 * 5)) = true ∧
      (sendingReply 0).port.output = ⟨240, [1]⟩ :: [] ∧ (inState .run).port.output = [] ∧
      (sampleLanePort (.watching true) (samplesOf (portCharacterBits 0xA5))).2 = [.requestCharacterReceived 0xA5] := by
  decide +kernel

/-! ## Witnesses: arrival queue -/

def presented (part mass : Nat) : List Byte := idA ++ wordBytes part ++ wordBytes mass

/-- A RUN station with `n` decided items and a table. -/
def queueOf (n : Nat) (table : List Entry) : State :=
  { inState .run with
    arrival := { items := (List.range n).map fun i => { itemA (byteOf i) .decided with pinned := false }
                 nextTag := byteOf n, accepted := n }
    tally := { table := table } }

theorem witness_PresentRefusedOrDecided :
    Serving (asked (queueOf 7 []) 1 (presented 10000 60001))
        { kind := 1, length := 17, payload := idA ++ [16, 39, 97, 234] } [] ∧
      (∀ x ∈ (queueOf 7 []).arrival.items, x.tag ≠ (queueOf 7 []).arrival.nextTag) ∧ pretest idA 10000 = false ∧
      sent (after .present (asked (queueOf 7 []) 1 (presented 10000 60001))) = [[1, 0, 7]] ∧
      (after .present (asked (queueOf 7 []) 1 (presented 10000 60001))).arrival.items.getLast?.map Item.mass = some .clamped ∧
      (after .present (asked (queueOf 7 []) 1 (presented 9999 60000))).arrival.items.getLast?.map Item.mass =
        some (.usable 60000) ∧
      sent (after .present (asked (queueOf 8 []) 1 (presented 0 600))) = [[1, 4]] ∧
      sent (after .present (asked (inState .paused) 1 (presented 0 600))) = [[1, 3]] ∧
      sent (after .present (asked { inState .run with station := { state := .run, observer := true } } 1 (presented 0 600))) =
        [[1, 6]] ∧
      pretest idA 12 = true ∧ scanFrom (keyOfChars idA 12) .presented lane6.watch 0 = some 1 ∧
      lane6.watch[1]?.map WatchEntry.divert = some true := by
  refine ⟨servingIn _ _ _ rfl rfl (by decide), ?_⟩; decide

/-- Title A with part number 12 in the table, as its certainty and parity make it. -/
def tableOf (c : Certainty) (parity : Bool) : List Entry :=
  [entryA 7 63, { entryA 12 2 with certainty := c, parityOk := parity }]

theorem witness_PresentLooksUp :
    Serving (asked (queueOf 7 (tableOf .certain true)) 1 (presented 12 612))
        { kind := 1, length := 17, payload := idA ++ [12, 0, 100, 2] } [] ∧
      (∀ x ∈ (queueOf 7 []).arrival.items, x.tag ≠ (queueOf 7 []).arrival.nextTag) ∧ pretest idA 12 = true ∧
      scanFrom (keyOfChars idA 12) .presented (inState .run).watch 0 = none ∧
      ((findEntry (tableOf .certain true) (keyOfChars idA 12)).map Entry.certainty = some .certain) ∧
      (after .present (asked (queueOf 7 (tableOf .certain true)) 1 (presented 12 612))).tally.table.map Entry.pins = [2, 1] ∧
      (after .present (asked (queueOf 7 (tableOf .certain true)) 1 (presented 12 612))).access.queue.map TxEntry.owner =
        [.claim 7] ∧
      (after .present (asked (queueOf 7 (tableOf .unsure true)) 1 (presented 12 612))).access.queue.map TxEntry.owner =
        [.inquiry (keyA 12)] ∧
      (after .present (asked (queueOf 0 []) 1 (presented 12 612))).tally.table.map Entry.count = [0] ∧
      (after .present (asked (queueOf 0 (tableOf .certain false)) 1 (presented 12 612))).station.state = .halted ∧
      (after .present (asked (queueOf 0 (tableOf .certain false)) 1 (presented 12 612))).port.output.map OutRecord.kind =
        [240, 241] := by
  refine ⟨servingIn _ _ _ rfl rfl (by decide), ?_⟩; decide

/-- A watch entry that wins for title A part 12 without diverting. -/
def watched : State :=
  { queueOf 0 [] with watch := [{ valid := true, digits := digitsA, part := some 12, events := 1 }] }

theorem witness_PresentLooksUp_watched :
    scanFrom (keyOfChars idA 12) .presented watched.watch 0 = some 0 ∧
      (watched.watch[0]?.map WatchEntry.divert).getD false = false ∧
      (after .present (asked watched 1 (presented 12 612))).watch.map WatchEntry.hits = [1] := by decide

/-- 512 entries that are pinned, but for the least recently touched, and none of them title A part 12. -/
def fullPinned (parity : Bool) : List Entry :=
  List.replicate 511 (entryA 0 1) ++ [{ entryA 7 2 with pins := 0, parityOk := parity }]

theorem witness_PresentLooksUp_full :
    (∀ parity, findEntry (fullPinned parity) (keyA 12) = none ∧ 512 ≤ (fullPinned parity).length) ∧
      makeRoom {} (fullPinned true) = .ok (List.replicate 511 (entryA 0 1)) ∧
      makeRoom {} (fullPinned false) = .error (keyA 7) := by
  refine ⟨fun p => ⟨by cases p <;> decide +kernel, ?_⟩, by decide +kernel, by decide +kernel⟩
  rw [fullPinned, List.length_append, List.length_replicate]; exact Nat.le_refl 512

/-- Decided records behind `n` unsent DISPOSITION records, an undecided one last or not. -/
def releasing (n : Nat) (clearing : Bool) (items : List Item) : State :=
  { inState .run with
    arrival := { items := items, nextTag := 9, accepted := 9 }
    port := { output := List.replicate n ⟨241, []⟩, clearing := clearing, buffer := [⟨6, 0, []⟩] }
    cond := { recorded := 0x20, deferred := 0x20, details := List.replicate 16 none } }

def decidedA (tag : Byte) : Item := { itemA tag .decided with pinned := false, disposition := some .stock }

theorem witness_DispositionRelease :
    (releasing 7 false [decidedA 1, decidedA 2]).port.clearing = false ∧
      (after .dispositionRelease (releasing 7 false [decidedA 1, decidedA 2])).arrival.items.map Item.tag = [2] ∧
      (after .dispositionRelease (releasing 6 false [decidedA 1, decidedA 2])).cond.pending = 0x20 ∧
      (after .dispositionRelease (releasing 0 false [decidedA 1, itemA 2 .queued])).arrival.items.map Item.tag = [2] ∧
      (after .dispositionRelease (releasing 7 true [decidedA 1, decidedA 2])).port.clearing = true ∧
      (after .dispositionRelease (releasing 7 true [decidedA 1, decidedA 2])).arrival.items.map Item.tag = [2] ∧
      (let halted := { releasing 6 true [decidedA 1, decidedA 2] with station := { state := .halted } }
       (after .dispositionRelease halted).cond.recorded = 0x20 ∧ (after .dispositionRelease halted).cond.pending = 0x20 ∧
         (sent (after .dispositionRelease halted)).getLast? = some [6, 0]) ∧
      (releasing 6 true [decidedA 1, decidedA 2]).port.buffer = [⟨6, 0, []⟩] ∧
      dispositionCount (releasing 6 true []).port.output + 2 ≤ 8 ∧
      (after .dispositionRelease (releasing 6 true [decidedA 1, decidedA 2])).cond.recorded = 0 ∧
      (sent (after .dispositionRelease (releasing 6 true [decidedA 1, decidedA 2]))).getLast? = some [6, 0] := by decide

/-- An item whose deadline has run out, in a stage, with the inquiry and the queue entries that go with it. -/
def expiring (stage : Stage) (q : List Inquiry) (queue : List TxEntry) : State :=
  { inState .run with
    arrival := { items := [{ itemA 7 stage with deadline := 0, ordinal := if stage = .settling then some 2 else none },
                           itemA 8 .inquiring], nextTag := 9, accepted := 9 }
    tally := { table := [{ entryA 0 1 with pins := 2 }] }
    inquiry := { inquiries := q }
    access := { queue := queue } }

theorem witness_DeadlinesRunAndExpire :
    ((expiring .inquiring [] []).arrival.find 7).map Item.deadline = some 0 ∧
      ((after (.deadlineExpiry 7) (expiring .inquiring [] [])).arrival.find 7).map Item.reason = some .deadline ∧
      ((after (.deadlineExpiry 7) (expiring .inquiring [⟨keyA 0, [7, 8], .queued, none⟩]
        [⟨.inquiry (keyA 0), 7, 0, false, false⟩])).access.queue.map TxEntry.place = [8]) ∧
      (after (.deadlineExpiry 7) (expiring .inquiring [⟨keyA 0, [7], .queued, none⟩]
        [⟨.inquiry (keyA 0), 7, 0, false, false⟩])).access.queue = [] ∧
      (after (.deadlineExpiry 7) (expiring .inquiring [⟨keyA 0, [7], .sending, none⟩]
        [⟨.inquiry (keyA 0), 7, 0, false, true⟩])).access.queue = [⟨.closedInquiry, 7, 0, true, true⟩] ∧
      (after (.deadlineExpiry 7) (expiring .inquiring [⟨keyA 0, [7], .window, some 9⟩] [])).inquiry.inquiries = [] ∧
      (after (.deadlineExpiry 7) (expiring .queued [] [⟨.claim 7, 7, 0, false, false⟩])).access.queue = [] ∧
      (after (.deadlineExpiry 7) (expiring .onLine [] [⟨.claim 7, 7, 0, false, true⟩])).access.queue.map TxEntry.noRetry =
        [true] ∧
      ((after (.deadlineExpiry 7) (expiring .settling [] [])).arrival.find 7).map Item.disposition = some (some .hold) ∧
      (after (.dwellClockTick true) (busyWith .run {})).arrival.items.map Item.deadline = [1499] ∧
      (after (.dwellClockTick true) (busyWith .halted {})).arrival.items.map Item.deadline = [1500] ∧
      (after (.dwellClockTick false) (busyWith .run {})).arrival.items.map Item.deadline = [1500] := by decide

/-- An item in SETTLING with an ordinal, under class 1 with p = 2 and s = 3. -/
def settlesAt (k : Nat) (timer : Option Nat) : State :=
  { inState .run with
    arrival := { items := [{ itemA 7 .settling with cls := 1, ordinal := some k, settle := timer }], nextTag := 8, accepted := 8 }
    rules := { classes := [{}, { p := 2, s := 3 }, {}, {}] } }

theorem witness_SettleExpiryMapsOrdinal :
    ((settlesAt 2 (some 0)).arrival.find 7).map Item.stage = some .settling ∧
      (settlesAt 2 (some 0)).rules.classes[1]? = some { p := 2, s := 3 } ∧
      [1, 2, 3, 5, 6, 63].map (fun k => (after (.settleExpiry 7) (settlesAt k (some 0))).arrival.items.map Item.disposition) =
        [[some .preserve], [some .preserve], [some .stock], [some .stock], [some .surplus], [some .surplus]] ∧
      after (.settleExpiry 7) (settlesAt 2 none) = settlesAt 2 none ∧
      (((queueOf 8 []).arrival.find 7).map fun it => (it.stage, it.settle)) = some (.decided, none) ∧
      after (.settleExpiry 7) (queueOf 8 []) = queueOf 8 [] := by decide

/-! ## Witnesses: rule unit, tally table, watch list, deferral -/

theorem witness_PretestChecksDigit :
    idA.length = 13 ∧ pretest idA 9999 = true ∧ pretest idA 10000 = false ∧ (∀ c ∈ idA, 48 ≤ c.toNat ∧ c.toNat ≤ 57) ∧
      pretest ((idA.set 10 (idA.getD 11 0)).set 11 (idA.getD 10 0)) 0 = true ∧
      pretest ((idA.set 0 (idA.getD 1 0)).set 1 (idA.getD 0 0)) 0 = false ∧ (48 : Byte) ≠ idA.getD 0 0 ∧
      pretest (idA.set 0 48) 0 = false ∧ (58 : Byte) ≠ idA.getD 12 0 ∧ pretest (idA.set 12 58) 0 = false := by decide

theorem witness_ClassOfTitle :
    ({ ranges := rangesOf53 } : Rules).ranges[0]? = some { enable := true, low := 40000, high := 40999, cls := 2 } ∧
      Rules.classOfKey { ranges := rangesOf53 } { digits := digitsOf [4, 0, 0, 0, 0], part := 0 } = 2 ∧
      Rules.classOfKey { ranges := rangesOf53 } { digits := digitsOf [4, 0, 9, 9, 9], part := 0 } = 2 ∧
      Rules.classOfKey { ranges := rangesOf53 } { digits := digitsOf [4, 1, 0, 0, 0], part := 0 } = 0 ∧
      Rules.classOfKey { ranges := rangesOf53 } { digits := digitsOf [4, 0, 10, 0, 0], part := 0 } = 0 ∧
      (∀ x ∈ (idA.set 5 79).take 5, 48 ≤ x.toNat ∧ x.toNat ≤ 57) ∧
      ((idA.set 5 79).take 5).map digitOfChar = digitsOf [4, 0, 2, 1, 3] ∧
      Rules.classOfChars { ranges := rangesOf53 } (idA.set 5 79) = 2 ∧
      Rules.classOfKey { ranges := rangesOf53 } { digits := digitsOf [4, 0, 2, 1, 3, 15], part := 0 } = 2 ∧
      (∃ x ∈ (idA.set 4 58).take 5, x.toNat < 48 ∨ 57 < x.toNat) ∧ (∃ x ∈ (idA.set 0 47).take 5, x.toNat < 48 ∨ 57 < x.toNat) ∧
      Rules.classOfChars { ranges := rangesOf53 } (idA.set 4 58) = 0 := by decide

theorem witness_MassCheckBand :
    massCheck { r := 255, f := 255 } 1 (some 60000) (.usable 45059) = .matched ∧
      massCheck { r := 0, f := 0 } 1 (some 600) (.usable 600) = .matched ∧
    massCheck {} 0 (some 612) (.usable 600) = .skipped ∧ massCheck {} 1 none (.usable 600) = .skipped ∧
      massCheck {} 1 (some 612) .clamped = .skipped ∧ massCheck {} 1 (some 612) (.usable 624) = .matched ∧
      massCheck {} 1 (some 612) (.usable 625) = .mismatch ∧ massCheck {} 1 (some 612) (.usable 599) = .mismatch := by decide

theorem witness_DeferralSeparatesLanes :
    (1 : Lane) ≠ 0 ∧ (31 : Lane) ≠ 0 ∧ deferral 31 true 15 = deferral 31 true 15 ∧ deferral 1 false 0 = 26 ∧
      deferral 1 true 15 ≠ deferral 31 true 15 := by decide

theorem witness_WatchScanFindsWinner :
    scanFrom (keyA 12) .presented listOf88 0 = some 1 ∧ scanFrom (keyA 7) .presented listOf88 0 = none ∧
      addHit [{ hits := 255 }] 0 = [{ hits := 255 }] ∧ addHit [{ hits := 254 }] 0 = [{ hits := 255 }] := by decide

theorem witness_TallyTableOperations :
    findEntry (tableOf .certain true) (keyA 12) = some (entryA 12 2) ∧ findEntry (tableOf .certain true) (keyA 0) = none ∧
      (tableOf .certain true).length < 512 ∧ makeRoom {} (tableOf .certain true) = .ok (tableOf .certain true) ∧
      (applyClaim {} (tableOf .certain true) 9 { seq := 1, key := keyA 7, basis := 63, mass := none }).map Applied.counts =
        .ok (some (63, 63)) := ⟨by decide, by decide, by decide, rfl, rfl⟩

/-- 512 entries, the last of them at its full requirement and unpinned, or none so. -/
def fullTable (count : Nat) : List Entry := List.replicate 511 (entryA 0 1) ++ { entryA 7 count with pins := 0 } :: []

theorem witness_TallyTableOperations_eviction (count : Nat) :
    (∀ e ∈ fullTable count, e.parityOk = true) ∧ 512 ≤ (fullTable count).length ∧ ({} : Rules).classes.length = 4 ∧
      (∀ g ∈ ({} : Rules).ranges, g.cls ≤ 3) ∧
      fullTable count = List.replicate 511 (entryA 0 1) ++ { entryA 7 count with pins := 0 } :: [] ∧
      ({ entryA 7 count with pins := 0 } : Entry).pins = 0 ∧
      (∀ e ∈ fullTable count, e.pins = 0 → e.count = count) ∧
      ({} : Rules).classes[({} : Rules).classOfKey (keyA 7)]? = some {} ∧ ({} : RuleClass).p + ({} : RuleClass).s = 2 := by
  have hm : ∀ e ∈ fullTable count, e = entryA 0 1 ∨ e = { entryA 7 count with pins := 0 } := by
    intro e he
    rcases List.mem_append.1 he with h | h
    · exact .inl (List.eq_of_mem_replicate h)
    · exact .inr (List.mem_singleton.1 h)
  refine ⟨?_, ?_, by decide, by decide, rfl, rfl, ?_, by decide, by decide⟩
  · intro e he; rcases hm e he with rfl | rfl <;> rfl
  · rw [fullTable, List.length_append, List.length_replicate]; exact Nat.le_refl 512
  · intro e he h
    rcases hm e he with rfl | rfl
    · exact absurd h (by decide)
    · rfl

/-! ## Witnesses: dock line -/

theorem witness_CharacterReceived :
    10 < 11 ∧ 6 ≤ 6 ∧ 8 ≤ 8 ∧ receive ((samplesOf (characterBits 75 true)).modify (16 * 0 + 6) not) = .character 75 true true ∧
      receive ((samplesOf (characterBits 75 true)).modify (16 * 10 + 8) not) = .character 75 true true :=
  ⟨by decide, by decide, by decide, rfl, rfl⟩

/-- A character of data 0 whose stop bit reads 0, and `n` more samples of 0 before the line reads high. -/
def lateStop (n : Nat) : List Bool :=
  samplesOf ((characterBits 0 true).take 10 ++ [false]) ++ List.replicate n false ++ List.replicate 3 true

theorem witness_CharacterReceived_line :
    (List.replicate 6 false ++ List.replicate 10 true)[6]? = some true ∧
      (List.replicate 6 false ++ List.replicate 10 true)[7]? = some true ∧
      sampleDockLine (.watching true) (List.replicate 7 false ++ List.replicate 16 true) = (.watching true, []) ∧
      sampleDockLine (.watching true) (lateStop 29) = (.watching true, [.startBitSeen, .dockFramingError]) ∧
      sampleDockLine (.watching true) (lateStop 30) = (.watching true, [.startBitSeen, .lineBreak, .breakEnd]) ∧
      sampleDockLine (.waitingHigh 0) (List.replicate 177 true) = (.waitingHigh 177, []) ∧
      sampleDockLine (.waitingHigh 0) (List.replicate 178 true) = (.watching true, [.highLineWaitEnd]) := by
  decide +kernel

/-- The first period of a bit lies before the end of its last sample interval, at every rate. -/
theorem witness_CharacterReceived_sampling : ∀ rate : BitVec 2, 0 < sampleInterval rate 15 := fun rate => sampleInterval_pos rate 15

/-- A listening station with its assembler in a state. -/
def assembles (a : Assembler) (discards : List Discard) : State :=
  { inState .configuring with line := { receiver := .inCharacter, assembler := a, discards := discards } }

theorem listening (a : Assembler) (ds : List Discard) : Listening (assembles a ds) :=
  ⟨rfl, rfl, .inr rfl, nofun, nofun⟩

/-- A partial INQUIRY from lane 9, at `n` of its 11 characters. -/
def partialInquiry (n : Nat) : RawFrame := { header := headerByte .inquiry 9, chars := List.replicate n 7 }

/-- Headers of kind 0, 1, 5 and 6, of lane 0 and 31; the 10th and the 11th character of an INQUIRY. -/
theorem witness_AssemblerTakesCharacters :
    Listening (assembles .muted []) ∧ Listening (assembles (.assembling (partialInquiry 9)) []) ∧
      kindOfCode (headerKind (partialInquiry 9).header) = some .inquiry ∧
      (after (.headerReceived 0x3F false) (assembles .muted [])).line.assembler = .assembling ⟨0x3F, [], 0⟩ ∧
      (after (.headerReceived 0xBF true) (assembles .muted [])).line.assembler = .assembling ⟨0xBF, [], 1⟩ ∧
      (after (.headerReceived 0xC1 false) (assembles .muted [])).line.discards = [⟨1, 6⟩] ∧
      (after (.headerReceived 0x1F false) (assembles .muted [])).line.discards = [⟨31, 0⟩] ∧
      (after (.headerReceived 0x20 false) (assembles .muted [])).line.discards = [⟨0, 1⟩] ∧
      (after (.headerReceived 0x21 false) (assembles (.assembling (partialInquiry 9)) [])).line.discards = [⟨9, 4⟩] ∧
      (after (.payloadCharacterReceived 7 true) (assembles (.assembling (partialInquiry 9)) [])).line.assembler =
        .assembling { partialInquiry 10 with noisy := 1 } ∧
      (after (.payloadCharacterReceived 7 true) (assembles (.assembling (partialInquiry 10)) [])).line.atCheck =
        [{ partialInquiry 11 with noisy := 1 }] ∧
      (after .dockFramingError (assembles (.assembling (partialInquiry 9)) [])).line.discards = [⟨9, 4⟩] ∧
      (after .lineBreak (assembles (.assembling (partialInquiry 9)) [⟨1, 1⟩])).line.discards = [] := by
  refine ⟨listening _ _, listening _ _, ?_⟩; decide

def receiverAt (r : Receiver) : State := { inState .run with line := { receiver := r, idle := 9 } }

theorem witness_LineBusyAndIdle :
    (after .breakEnd (receiverAt .inBreak)).line.receiver = .idle ∧
      (after .highLineWaitEnd (receiverAt .waitingHigh)).line.receiver = .idle ∧
      (after .startBitSeen (receiverAt .idle)).line.receiver = .inCharacter ∧
      after .breakEnd (receiverAt .idle) = receiverAt .idle ∧
      after .highLineWaitEnd (receiverAt .inBreak) = receiverAt .inBreak ∧
      after .startBitSeen (receiverAt .inBreak) = receiverAt .inBreak := by decide

/-- A listening station with an idle line, discards on its list and a table with a CERTAIN entry. -/
def discarding (a : Assembler) (n : Nat) : State :=
  { inState .run with
    line := { receiver := .idle, assembler := a, discards := (List.range n).map fun i => ⟨BitVec.ofNat 5 (i + 1), 2⟩ }
    tally := { table := [entryA 0 1] } }

theorem witness_DiscardsConfirmed :
    (discarding .muted 3).line.discards.length < 4 ∧ 4 ≤ (discarding .muted 4).line.discards.length ∧
      (placeDiscard ⟨9, 2⟩ (discarding .muted 3)).tally.epoch = 0 ∧
      (placeDiscard ⟨9, 2⟩ (discarding .muted 4)).line.discards.map Discard.lane = [2, 3, 4, 9] ∧
      (placeDiscard ⟨9, 2⟩ (discarding .muted 4)).tally.epoch = 1 ∧
      (discarding .muted 1).station.state.receives = true ∧ (discarding .muted 1).access.unit = .quiet ∧
      ((after .discardConfirmed (discarding .muted 1)).cond.detail .lineCheck).map Detail.source = some (.line 1) ∧
      (after .discardConfirmed (discarding .muted 1)).tally.table.map Entry.certainty = [.unsure] ∧
      ((after .truncation (discarding (.assembling (partialInquiry 3)) 3)).cond.detail .lineCheck).map Detail.value =
        some (some 4) ∧
      (after .truncation (discarding (.assembling (partialInquiry 3)) 4)).line.discards.map Discard.lane = [2, 3, 4] ∧
      (after .truncation (discarding (.assembling (partialInquiry 3)) 4)).tally.epoch = 2 := by decide

/-- A GREETING of lane 9 complete in form, from the characters its sender transmits, one spoilt or not. -/
def checking (spoilt : Bool) (noisy : Nat) (one two : Bool) : State :=
  let f : StoredFrame := peer .greeting [0, 1]
  let chars := (frameBytes .greeting 9 f.payload).drop 1
  { inState .run with line := {
      receiver := .idle, slot1 := if one then some f else none, slot2 := if two then some f else none, nextOrder := 5
      atCheck := [{ header := headerByte .greeting 9, chars := if spoilt then chars.set 1 0 else chars, noisy := noisy }] } }

theorem witness_FrameCheckedAndStored :
    (checking false 0 false false).line.atCheck.map passesCheck = [true] ∧
      (checking true 0 false false).line.atCheck.map passesCheck = [false] ∧
      (checking false 0 false false).line.atCheck.map (fun f => kindOfCode (headerKind f.header)) = [some .greeting] ∧
      (after .peerFrameComplete (checking true 0 false false)).line.discards = [⟨9, 1⟩] ∧
      (after .peerFrameComplete (checking false 0 false false)).line.slot1.map StoredFrame.order = some 5 ∧
      (after .peerFrameComplete (checking false 1 true false)).line.slot2.map StoredFrame.order = some 5 ∧
      has (after .peerFrameComplete (checking false 1 true false)).cond.recorded .lineNoise = true ∧
      has (after .peerFrameComplete (checking false 0 true false)).cond.recorded .lineNoise = false ∧
      (after .peerFrameComplete (checking false 0 true true)).tally.epoch = 1 := by decide +kernel

theorem witness_FrameTransported :
    Listening (assembles .muted []) ∧ (assembles .muted []).line.atCheck = [] ∧ (assembles .muted []).line.slot1 = none ∧
      (31 : Lane) ≠ 0 ∧ (greetingPayload true).length = FrameKind.greeting.payloadLength ∧
      (claimPayload 1 (keyA 9999) 63 (some 60000)).length = FrameKind.claim.payloadLength :=
  ⟨listening _ _, rfl, rfl, by decide, rfl, rfl⟩

theorem witness_PayloadsReadBack :
    (keyA 9999).digits.length = 13 ∧ 63 ≤ 63 ∧ (∀ g, some 60000 = some g → 1 ≤ g ∧ g ≤ 60000) ∧
      (∀ g, some 1 = some g → 1 ≤ g ∧ g ≤ 60000) ∧
      readClaim (claimPayload 255 (keyA 9999) 63 (some 60000)) = ⟨255, keyA 9999, 63, some 60000⟩ := by
  refine ⟨rfl, Nat.le_refl _, ?_, ?_, by decide⟩ <;> (intro g h; cases h; decide)

/-! ## Witnesses: frames in line order -/

theorem witness_FrameHandOffs :
    (heard 44).claim.roster.getD 8 {} = ⟨true, 44, .lane⟩ ∧
      (rosterCheck .correction 9 45 (keyA 0) (heard 44)).tally.epoch = 0 ∧
      (rosterCheck .correction 9 46 (keyA 0) (heard 44)).tally.epoch = 1 ∧
      (rosterCheck .claim 1 7 (keyA 0) (heard 44)).claim.roster.getD 0 {} = ⟨true, 7, .lane⟩ ∧
      (rosterCheck .claim 31 7 (keyA 0) (heard 44)).claim.roster.getD 30 {} = ⟨true, 7, .lane⟩ ∧
      scanFrom (keyA 12) .counted lane6.watch 0 = some 1 ∧ scanFrom (keyA 12) .surplus lane6.watch 0 = none ∧
      (scheduleCorrection 9 3 (keyA 0) 4 (inState .run)).claim.corrections.map Correction.holdOff = [6000] ∧
      ({ (inState .run) with claim := { corrections := List.replicate 4 ⟨0, 9, 3, keyA 0, 4, .held, 0, none⟩ } } :
        State).claim.corrections.length = 4 := by decide

/-- A station holding title A part 12 with count 2, parity right or spoilt, that hears a frame of lane 9. -/
def hearsWith (x : StationState) (parity : Bool) (f : StoredFrame) : State :=
  { hears x f with tally := { table := [{ entryA 12 2 with pins := 0, parityOk := parity }] } }

def claimBasis (n : Nat) : StoredFrame := peer .claim (claimPayload 7 (keyA 12) n (some 600))

theorem witness_PeerClaimAndCorrectionHandled_claim :
    Takes false (claimBasis 1) (hearsWith .run true (claimBasis 1)) ∧
      (claimBasis 1).lane ≠ (hearsWith .run true (claimBasis 1)).station.lane ∧
      (applyClaim {} [{ entryA 12 2 with pins := 0 }] 9 (readClaim (claimBasis 1).payload)).map Applied.counts = .ok (some (2, 3)) ∧
      (after .peerClaim (hearsWith .run true (claimBasis 1))).claim.corrections.map Correction.value = [3] ∧
      (after .peerClaim (hearsWith .configuring true (claimBasis 1))).claim.corrections = [] ∧
      (after .peerClaim (hearsWith .run true (claimBasis 2))).claim.corrections = [] ∧
      (after .peerClaim (hearsWith .run false (claimBasis 1))).station.state = .halted :=
  ⟨⟨rfl, rfl, rfl⟩, by decide, rfl, by decide, by decide, by decide, by decide⟩

/-- A CORRECTION of lane 9 to this station's claim 7, or to lane 3's. -/
def correctionOf (lane : Lane) (value : Nat) : StoredFrame :=
  peer .correction (correctionPayload 1 lane 7 (keyA 12) value)

/-- The station with an item settling on claim 7 with ordinal 3, and with pending corrections of lane 3's claim 7. -/
def corrected (value : Nat) (lane : Lane) (item : Bool) : State :=
  { hearsWith .run true (correctionOf lane value) with
    arrival := { items := if item then [{ itemA 7 .settling with ordinal := some 3, claimSeq := some 7 }] else [] }
    claim := { corrections := [⟨0, 3, 7, keyA 12, 5, .queued, 0, none⟩] }
    access := { queue := [⟨.correction 3 7 0, 0, 0, false, false⟩] } }

theorem witness_PeerClaimAndCorrectionHandled_correction :
    Takes false (correctionOf 1 4) (corrected 4 1 true) ∧
      (corrected 4 1 true).arrival.items = [] ++ { itemA 7 .settling with ordinal := some 3, claimSeq := some 7 } :: [] ∧
      (after .peerCorrection (corrected 4 1 true)).arrival.items.map (fun it => (it.ordinal, it.corrected)) = [(some 4, true)] ∧
      (after .peerCorrection (corrected 3 1 true)).arrival.items.map (fun it => (it.ordinal, it.corrected)) = [(some 3, false)] ∧
      ((after .peerCorrection (corrected 4 1 false)).cond.detail .lateCorrection).map Detail.value = some (some 4) ∧
      (after .peerCorrection (corrected 4 3 true)).claim.corrections.length = 1 ∧
      (after .peerCorrection (corrected 5 3 true)).claim.corrections = [] ∧
      (after .peerCorrection (corrected 5 3 true)).access.queue = [] ∧
      (after .peerCorrection (hearsWith .run false (correctionOf 3 4))).station.state = .halted :=
  ⟨⟨rfl, rfl, rfl⟩, rfl, by decide⟩

/-- Two pending corrections of one claim: a CORRECTION with the value of the first withdraws that one with its entry, and
leaves the other and the other's entry (R71). -/
theorem test_R71_two_corrections_of_one_claim :
    let s := { hearsWith .run true (correctionOf 3 4) with
      claim := { corrections := [⟨0, 3, 7, keyA 12, 4, .queued, 0, none⟩, ⟨1, 3, 7, keyA 12, 5, .queued, 0, none⟩] }
      access := { queue := [⟨.correction 3 7 0, 0, 0, false, false⟩, ⟨.correction 3 7 1, 1, 0, false, false⟩] } }
    (after .peerCorrection s).claim.corrections.map Correction.value = [5] ∧
      (after .peerCorrection s).access.queue.map TxEntry.owner = [.correction 3 7 1] := by decide

def inquiryA : StoredFrame := peer .inquiry (inquiryPayload (keyA 12))
def answerA (count : Nat) : StoredFrame := peer .answer (answerPayload 4 (keyA 12) count none)

/-- The station with `n` pending answers that are not to lane 9, and perhaps one to lane 4 for the title. -/
def answering (x : StationState) (f : StoredFrame) (n : Nat) (own : Bool) : State :=
  { hearsWith x true f with
    inquiry := { answers := List.replicate n ⟨5, keyA 0, .holding, 1⟩ ++ (if own then [⟨4, keyA 12, .queued, 0⟩] else []) }
    access := { queue := if own then [⟨.answer 4 (keyA 12), 0, 0, false, false⟩] else [] } }

theorem witness_OtherPeerFramesHandled :
    Takes false inquiryA (answering .run inquiryA 3 false) ∧ Takes false (answerA 3) (answering .run (answerA 3) 3 true) ∧
      Takes false { inquiryA with lane := 1 } (hears .run { inquiryA with lane := 1 }) ∧
      Takes false (peer .greeting [0, 1]) (hears .run (peer .greeting [0, 1])) ∧
      (after .duplicateLane (hears .run { inquiryA with lane := 1 })).station.state = .halted ∧
      (after .peerGreeting (hears .run (peer .greeting [0, 1]))).claim.roster.getD 8 {} = ⟨true, 0, .observer⟩ ∧
      (after .peerInquiry (answering .run inquiryA 3 false)).inquiry.answers.length = 4 ∧
      has (after .peerInquiry (answering .run inquiryA 4 false)).cond.recorded .transmitBacklog = true ∧
      (after .peerInquiry (answering .configuring inquiryA 0 false)).inquiry.answers = [] ∧
      (after .peerInquiry (hears .run inquiryA)).tally.table = [] ∧
      (after .peerAnswer (answering .run (answerA 2) 3 true)).inquiry.answers.length = 3 ∧
      (after .peerAnswer (answering .run (answerA 2) 3 true)).access.queue = [] ∧
      (after .peerAnswer (answering .run (answerA 1) 3 true)).inquiry.answers.length = 4 ∧
      (after .peerAnswer (answering .run (answerA 63) 3 true)).tally.table.map Entry.count = [63] :=
  ⟨⟨rfl, rfl, rfl⟩, ⟨rfl, rfl, rfl⟩, ⟨rfl, rfl, rfl⟩, ⟨rfl, rfl, rfl⟩, by decide⟩

theorem witness_OtherPeerFramesHandled_results :
    (touchEntry [entryA 0 1, entryA 12 2] (readInquiry inquiryA.payload)).map Prod.snd = .ok (some (entryA 12 2)) ∧
      (touchEntry [] (readInquiry inquiryA.payload)).map Prod.snd = .ok none ∧
      (mergeAnswer [entryA 12 2] (readAnswer (answerA 3).payload)).map Applied.counts = .ok (some (2, 3)) ∧
      (findEntry (hearsWith .run false inquiryA).tally.table (readInquiry inquiryA.payload)).map Entry.parityOk = some false ∧
      (findEntry (hearsWith .run false (answerA 3)).tally.table (readAnswer (answerA 3).payload).key).map Entry.parityOk =
        some false ∧
      (after .peerInquiry (hearsWith .run false inquiryA)).station.state = .halted ∧
      (after .peerAnswer (hearsWith .run false (answerA 3))).station.state = .halted :=
  ⟨rfl, rfl, rfl, rfl, rfl, by decide, by decide⟩

/-- A station whose own frame stands in the holder, with an item on claim 7 and work pending for title A part 12. -/
def handlesOwn (f : StoredFrame) (deadline : Nat) : State :=
  { holds .joining f with
    arrival := { items := [{ itemA 7 .onLine with part := 12, claimSeq := some 7, deadline := deadline }] }
    tally := { table := [entryA 12 2] }
    claim := { corrections := [⟨0, 3, 7, keyA 12, 5, .held, 0, none⟩, ⟨1, 3, 7, keyA 12, 6, .sending, 0, some 1⟩], ownSeq := 9 }
    inquiry := { inquiries := [⟨keyA 12, [8], .sending, none⟩]
                 answers := [⟨4, keyA 12, .sending, 0⟩, ⟨4, keyA 7, .sending, 0⟩] } }

theorem witness_OwnFramesHandled :
    Takes true (own .claim (claimPayload 7 (keyA 12) 2 none)) (handlesOwn (own .claim (claimPayload 7 (keyA 12) 2 none)) 1) ∧
      (applyClaim {} [entryA 12 2] 1 (readClaim (claimPayload 7 (keyA 12) 2 none))).map Applied.counts = .ok (some (2, 3)) ∧
      ((after .ownClaimApplied (handlesOwn (own .claim (claimPayload 7 (keyA 12) 2 none)) 1)).arrival.items.map
        fun it => (it.ordinal, it.stage, it.settle)) = [(some 3, .settling, some 720000)] ∧
      ((after .ownClaimApplied (handlesOwn (own .claim (claimPayload 7 (keyA 12) 2 none)) 0)).arrival.items.map
        fun it => (it.ordinal, it.stage, it.reason)) = [(some 3, .decided, .deadline)] ∧
      (after .ownClaimApplied (handlesOwn (own .claim (claimPayload 6 (keyA 12) 2 none)) 1)).arrival.items.map Item.stage =
        [.onLine] ∧
      (after .ownCorrectionApplied (handlesOwn (own .correction (correctionPayload 1 3 7 (keyA 12) 6)) 1)).claim.corrections.map
        Correction.number = [0] ∧
      (after .ownAnswerMerged (handlesOwn (own .answer (answerPayload 4 (keyA 12) 2 none)) 1)).inquiry.answers =
        [⟨4, keyA 7, .sending, 0⟩] ∧
      (after .ownInquiryHandled (handlesOwn (own .inquiry (inquiryPayload (keyA 12))) 1)).inquiry.inquiries.map Inquiry.window =
        [some 480000] ∧
      (after .ownGreetingHandled (handlesOwn (own .greeting [0, 0]) 1)).station.state = .run ∧
      (after .ownGreetingHandled (handlesOwn (own .greeting [0, 0]) 1)).claim.ownSeq = 0 ∧
      (after .ownGreetingHandled (handlesOwn (own .greeting [0, 0]) 1)).access.queue.map TxEntry.owner = [.correction 3 7 0] ∧
      (∀ c ∈ (holds .joining (own .greeting [0, 0])).claim.corrections, c.stage ≠ .held) :=
  ⟨⟨rfl, rfl, rfl⟩, rfl, by decide⟩

/-- The same with the entry's parity spoilt, for the frames that read it. -/
def handlesSpoilt (f : StoredFrame) : State :=
  { handlesOwn f 1 with tally := { table := [{ entryA 12 2 with parityOk := false }] } }

theorem witness_OwnFramesHandled_parity :
    applyClaim {} (handlesSpoilt (own .claim [])).tally.table 1 (readClaim (claimPayload 7 (keyA 12) 2 none)) =
        .error (keyA 12) ∧
      (after .ownClaimApplied (handlesSpoilt (own .claim (claimPayload 7 (keyA 12) 2 none)))).station.state = .halted ∧
      (after .ownCorrectionApplied (handlesSpoilt (own .correction (correctionPayload 1 3 7 (keyA 12) 6)))).station.state =
        .halted ∧
      (after .ownAnswerMerged (handlesSpoilt (own .answer (answerPayload 4 (keyA 12) 2 none)))).station.state = .halted :=
  ⟨rfl, by decide, by decide, by decide⟩

/-- An own ANSWER handled after a CLEAR WORK finds none to remove, though an INQUIRY completed before it has scheduled an
ANSWER afresh (R100). -/
theorem test_R100_fresh_answer_stays :
    let s := handlesOwn (own .answer (answerPayload 4 (keyA 12) 2 none)) 1
    (after .ownAnswerMerged { s with inquiry := { answers := [⟨4, keyA 12, .holding, 9⟩] } }).inquiry.answers =
      [⟨4, keyA 12, .holding, 9⟩] := by decide

/-! ## Witnesses: line access and timers -/

/-- A DEFERRING station, lane 1, the line idle, with one waiting entry and the work it stands for. -/
def defers (o : Owner) (mass : Nat) (seq : Option Byte) : State :=
  { inState .run with
    line := { receiver := .idle }
    access := { queue := [⟨o, 0, 0, false, false⟩], unit := .deferring }
    tally := { table := [entryA 12 2] }
    arrival := { items := [{ itemA 7 .queued with part := 12, mass := .usable mass, claimSeq := seq }] }
    claim := { corrections := [⟨0, 3, 7, keyA 12, 5, .queued, 0, none⟩], ownSeq := 255 }
    inquiry := { inquiries := [⟨keyA 12, [8], .queued, none⟩], answers := [⟨4, keyA 12, .queued, 0⟩] } }

theorem witness_AttemptStarts :
    (defers .greeting 600 none).access.candidate = some ⟨.greeting, 0, 0, false, false⟩ ∧
      (inState .run).access.candidate = none ∧ after (.attemptStart 646) (inState .run) = inState .run ∧
      deferral 1 false 0 ≤ 26 ∧ ¬ deferral 1 false 0 ≤ 25 ∧
      after (.attemptStart 25) (defers .greeting 600 none) = defers .greeting 600 none ∧
      (after (.attemptStart 26) (defers .greeting 600 none)).access.flight = some ⟨.greeting, [0, 0]⟩ ∧
      (after (.attemptStart 26) (defers (.inquiry (keyA 12)) 600 none)).inquiry.inquiries.map Inquiry.stage = [.sending] ∧
      (after (.attemptStart 26) (defers (.answer 4 (keyA 12)) 600 none)).access.flight =
        some ⟨.answer, answerPayload 4 (keyA 12) 2 (some 612)⟩ ∧
      (after (.attemptStart 26) (defers (.correction 3 7 0) 600 none)).access.flight =
        some ⟨.correction, correctionPayload 0 3 7 (keyA 12) 5⟩ ∧
      (after (.attemptStart 26) (defers (.claim 7) 600 (some 4))).access.flight =
        some ⟨.claim, claimPayload 4 (keyA 12) 2 (some 600)⟩ ∧
      (after (.attemptStart 26) (defers (.claim 7) 600 none)).access.flight =
        some ⟨.claim, claimPayload 0 (keyA 12) 2 (some 600)⟩ ∧
      (after (.attemptStart 26) (defers (.claim 7) 900 none)).arrival.items.map Item.reason = [.mass] ∧
      massCheck ((defers (.claim 7) 900 none).rules.classAt 0) 2 (some 612) (.usable 900) = .mismatch := by decide

/-- A refused build with an INQUIRY waiting behind it, which begins at the same boundary; a refused build alone. -/
theorem witness_AttemptStarts_refused :
    let refusedBy (s : State) : State :=
      { s with access := { s.access with queue := s.access.queue ++ [⟨.inquiry (keyA 12), 8, 0, false, false⟩] } }
    let spoilt (o : Owner) : State :=
      { defers o 600 none with tally := { table := [{ entryA 12 2 with parityOk := false }] } }
    (refusedBy (defers (.claim 7) 900 none)).access.candidate = some ⟨.claim 7, 0, 0, false, false⟩ ∧
      (after (.attemptStart 26) (refusedBy (defers (.claim 7) 900 none))).access.flight =
        some ⟨.inquiry, inquiryPayload (keyA 12)⟩ ∧
      (after (.attemptStart 26) (refusedBy { defers (.answer 4 (keyA 12)) 600 none with tally := {} })).access.flight =
        some ⟨.inquiry, inquiryPayload (keyA 12)⟩ ∧
      (after (.attemptStart 26) { defers (.answer 4 (keyA 12)) 600 none with tally := {} }).inquiry.answers = [] ∧
      (after (.attemptStart 26) { defers (.answer 4 (keyA 12)) 600 none with
        tally := { table := [entryA 12 0] } }).access.unit = .quiet ∧
      (after (.attemptStart 26) (spoilt (.claim 7))).station.state = .halted ∧
      (after (.attemptStart 26) (spoilt (.answer 4 (keyA 12)))).station.state = .halted := by decide

/-- A SENDING station with its GREETING in flight, `n` characters read back. -/
def sends (n : Nat) (o : Owner) : State :=
  { inState .run with
    line := { receiver := .inCharacter }
    arrival := { items := [itemA 7 .onLine] }
    access := { queue := [⟨o, 0, 3, false, true⟩], unit := .sending, flight := some ⟨.greeting, [0, 0]⟩, readback := n
                wave := frameBits .greeting 1 [0, 0], txElapsed := 208 * 11 + 1 } }

/-- The same at another time since the attempt's first boundary. -/
def sendsAt (time : Nat) : State := { sends 1 .greeting with access := { (sends 1 .greeting).access with txElapsed := time } }

theorem witness_OwnFrameEnds :
    (sends 0 .greeting).access.flight = some ⟨.greeting, [0, 0]⟩ ∧ (sends 0 .greeting).access.readbackFault = false ∧
      (sends 0 .greeting).line.holder = none ∧ (sends 0 (.claim 7)).access.inFlightEntry = some ⟨.claim 7, 0, 3, false, true⟩ ∧
      (after (.headerReceived 0x21 false) (sends 0 .greeting)).access.readbackFault = false ∧
      (after (.headerReceived 0x21 true) (sends 0 .greeting)).access.readbackFault = true ∧
      (after (.headerReceived 0 false) (sends 1 .greeting)).access.readbackFault = true ∧
      (after (.payloadCharacterReceived 0 false) (sends 1 .greeting)).access.readbackFault = false ∧
      (after (.payloadCharacterReceived 1 false) (sends 2 .greeting)).access.readbackFault = true ∧
      (after (.payloadCharacterReceived 1 false) (sends 5 .greeting)).access.readbackFault = true ∧
      (after .dockFramingError (sends 1 .greeting)).access.readbackFault = true ∧
      (after .lineBreak (sends 1 .greeting)).line.receiver = .inBreak ∧
      (after .ownFrameCompletion (sends 5 (.claim 7))).arrival.items.map Item.completed = [true] ∧
      (after .ownFrameCompletion (sends 5 .greeting)).line.holder.map StoredFrame.kind = some .greeting ∧
      (after .ownFrameCompletion (sends 5 .greeting)).access.yield = true ∧
      (after .collision (sends 1 .greeting)).access.jamLeft = 208 * 11 - 1 + 16 * 208 ∧
      (after .collision (sends 1 .greeting)).access.queue.map TxEntry.attempts = [4] := by decide

/-- The header's bits at their times, a jam commanded at the first boundary of the header and after the last character, and
the line low for 14 bit times and then released. -/
theorem witness_OwnFrameEnds_line :
    (sends 0 .greeting).access.wave = frameBits .greeting 1 [0, 0] ∧
      [0, 1, 2, 5, 6, 9, 10].map (fun j => dockLevel (sendsAt (208 * j + 207))) =
        [false, true, false, false, true, true, true] ∧
      (after .collision (sendsAt 0)).access.jamLeft = 208 * (11 + 16) ∧
      (after .collision (sendsAt (208 * 55))).access.jamLeft = 208 * 16 ∧
      (let jammed := after .collision (sendsAt 0)
       [10, 11, 24, 25, 26, 27].map (fun j => dockLevel { jammed with access := { jammed.access with txElapsed := 208 * j } }) =
        [true, false, false, true, true, true]) ∧
      dockLevel (inState .run) = true := by decide +kernel

/-- A JAMMING station with an entry in flight at an attempt count. -/
def jams (o : Owner) (attempts : Nat) (noRetry : Bool) (deadline : Nat) : State :=
  { inState .run with
    access := { queue := [⟨o, 0, attempts, noRetry, true⟩], unit := .jamming, flight := some ⟨.greeting, [0, 0]⟩ }
    tally := { table := [entryA 12 2] }
    arrival := { items := [{ itemA 7 .onLine with part := 12, deadline := deadline }, { itemA 8 .inquiring with part := 12 }] }
    claim := { corrections := [⟨0, 3, 7, keyA 12, 5, .sending, 0, some 1⟩] }
    inquiry := { inquiries := [⟨keyA 12, [8], .sending, none⟩], answers := [⟨4, keyA 12, .sending, 0⟩] } }

theorem witness_JamEnds :
    (jams .greeting 15 false 1).access.inFlightEntry = some ⟨.greeting, 0, 15, false, true⟩ ∧
      (after .jamEnd { inState .run with access := { unit := .jamming } }).access.unit = .quiet ∧
      (after .jamEnd (jams (.claim 7) 15 true 1)).arrival.items.map Item.reason = [.deadline, .none] ∧
      (after .jamEnd (jams (.claim 7) 15 false 0)).arrival.items.map Item.reason = [.deadline, .none] ∧
      (after .jamEnd (jams (.claim 7) 16 false 1)).arrival.items.map Item.reason = [.contention, .none] ∧
      (after .jamEnd (jams (.claim 7) 15 false 1)).arrival.items.map Item.stage = [.queued, .inquiring] ∧
      (after .jamEnd (jams .closedInquiry 15 true 1)).access.queue = [] ∧
      (after .jamEnd (jams (.inquiry (keyA 12)) 15 false 1)).inquiry.inquiries.map Inquiry.stage = [.queued] ∧
      (after .jamEnd (jams .greeting 15 false 1)).access.queue.map TxEntry.inFlight = [false] ∧
      (after .jamEnd (jams .greeting 16 false 1)).claim.greetingTimer = some 2400000 ∧
      (after .jamEnd (jams (.answer 4 (keyA 12)) 16 false 1)).inquiry.answers = [] ∧
      (after .jamEnd (jams (.correction 3 7 0) 16 false 1)).claim.corrections = [] ∧
      (after .jamEnd (jams (.inquiry (keyA 12)) 16 false 1)).access.queue.map TxEntry.owner = [.claim 8] := by decide

/-- A station whose four kinds of timer have run out. -/
def expired (x : StationState) : State :=
  { inState x with
    tally := { table := [{ entryA 12 2 with certainty := .unsure }] }
    arrival := { items := [{ itemA 8 .inquiring with part := 12 }] }
    claim := { corrections := [⟨0, 3, 7, keyA 12, 5, .holding, 0, none⟩, ⟨1, 4, 7, keyA 0, 5, .held, 0, none⟩], greetingTimer := some 0 }
    inquiry := { inquiries := [⟨keyA 12, [8], .window, some 0⟩], answers := [⟨4, keyA 12, .holding, 0⟩] } }

theorem witness_TimersExpire :
    (expired .run).station.state.transmits = true ∧
      ((expired .run).inquiry.find (keyA 12)).map Inquiry.window = some (some 0) ∧
      (after (.inquiryWindowExpiry (keyA 12)) (expired .run)).tally.table.map Entry.certainty = [.certain] ∧
      (after (.inquiryWindowExpiry (keyA 12)) (expired .run)).access.queue.map TxEntry.owner = [.claim 8] ∧
      (after (.answerHoldOffExpiry 4 (keyA 12)) (expired .run)).access.queue.map TxEntry.owner = [.answer 4 (keyA 12)] ∧
      (expired .run).claim.corrections = [] ++ ⟨0, 3, 7, keyA 12, 5, .holding, 0, none⟩ :: [⟨1, 4, 7, keyA 0, 5, .held, 0, none⟩] ∧
      (after (.correctionHoldOffExpiry 3 7) (expired .run)).access.queue.map TxEntry.owner = [.correction 3 7 0] ∧
      (after (.correctionHoldOffExpiry 3 7) (expired .joining)).claim.corrections.map Correction.claimLane = [4, 3] ∧
      (after .greetingRequeueExpiry (expired .joining)).access.queue.map TxEntry.owner = [.greeting] := by decide

/-- Two corrections of one claim, HOLDING: the first expiry is the first one's, the second the other's, in JOINING and in
RUN, and each keeps its own record or entry (R69, R139). -/
theorem test_R69_two_corrections_of_one_claim :
    let both (x : StationState) : State :=
      { inState x with claim := { corrections := [⟨0, 3, 7, keyA 12, 4, .holding, 0, none⟩, ⟨1, 3, 7, keyA 12, 5, .holding, 0, none⟩] } }
    let twice (x : StationState) : State := afterAll [.correctionHoldOffExpiry 3 7, .correctionHoldOffExpiry 3 7] (both x)
    (twice .joining).claim.corrections.map (fun c => (c.number, c.stage)) = [(0, .held), (1, .held)] ∧
      (twice .run).claim.corrections.map (fun c => (c.number, c.stage)) = [(0, .queued), (1, .queued)] ∧
      (twice .run).access.queue.map TxEntry.owner = [.correction 3 7 0, .correction 3 7 1] := by decide

/-! ## Witnesses: invariants and rules of the whole machine -/

theorem reset_conditions_sound : State.reset.cond.sound := by
  refine ⟨⟨rfl, rfl⟩, rfl, ?_, ?_⟩
  · intro c d h; cases c <;> cases h
  · intro c; cases c <;> decide

theorem reset_pins_follow : State.reset.pinsFollow := by
  refine ⟨⟨nofun, ?_⟩, ⟨nofun, ?_⟩, nofun⟩
  · rintro ⟨-, -, c, h, -⟩; cases c <;> cases h
  · rintro ⟨-, -, h | ⟨c, h, -⟩⟩
    · cases h
    · cases c <;> cases h

theorem witness_ResetIsPowerUpAndSound : ∃ t, exec (.powerGoodRise 0 3 true) (fullQueue .halted) = .next t := ⟨_, rfl⟩

/-- The reset state with PRESENT waiting meets every invariant, and its step goes on. -/
def begins : State := { State.reset with pending := [.present] }

theorem witness_PinsFollowAtEveryStep : begins.pinsFollow ∧ ∃ t, step begins = .next t := ⟨reset_pins_follow, _, rfl⟩
theorem witness_ConditionsStaySound : begins.cond.sound ∧ ∃ t, step begins = .next t := ⟨reset_conditions_sound, _, rfl⟩
theorem witness_TallyStaysSound : begins.tally.sound ∧ ∃ t, step begins = .next t :=
  ⟨⟨by decide, by decide, nofun⟩, _, rfl⟩
theorem witness_ArrivalStaysSound : begins.arrival.sound ∧ (queueOf 8 []).arrival.sound ∧ ∃ t, step begins = .next t := by
  refine ⟨?_, ?_, _, rfl⟩ <;> (unfold Arrival.sound; decide)
theorem witness_LimitsKept : (begins.withinLimits ∧ begins.banksWhole ∧ begins.rules.inRange) ∧ begins.transmitsInTurn ∧
    (jams .greeting 15 false 1).transmitsInTurn ∧ ∃ t, step begins = .next t := by
  refine ⟨⟨?_, ?_, ?_⟩, ?_, ?_, _, rfl⟩
  · unfold State.withinLimits; decide
  · unfold State.banksWhole; decide
  · unfold Rules.inRange; decide
  · unfold State.transmitsInTurn; decide
  · unfold State.transmitsInTurn; decide

/-- The hypotheses of the rules of the whole machine: a command that goes on and is no rising edge of POWER GOOD. -/
theorem witness_StationStateChanges :
    (∃ t, exec .pause (asked (inState .run) 4 []) = .next t ∧ t.station.state ≠ (asked (inState .run) 4 []).station.state) ∧
      (∀ l q o, Instr.pause ≠ .powerGoodRise l q o) ∧
      (inState .halted).station.state = .halted ∧ (inState .halted).access.queue = [] ∧
      (inState .halted).access.unit ≠ .sending ∧ (∃ t, exec .dispositionRelease (inState .halted) = .next t) ∧
      (inState .halted).line.receiver = .waitingHigh ∧ ∃ t, exec .highLineWaitEnd (inState .halted) = .next t :=
  ⟨⟨_, rfl, by decide⟩, nofun, rfl, rfl, nofun, ⟨_, rfl⟩, rfl, ⟨_, rfl⟩⟩
theorem witness_ConfigurationFixed :
    (∃ t, exec .present (asked watched 1 (presented 12 612)) = .next t) ∧
      (∀ l q o, Instr.present ≠ .powerGoodRise l q o) ∧ Instr.present ≠ .laneReset ∧ Instr.present ≠ .loadWatchEntry :=
  ⟨⟨_, rfl⟩, nofun, nofun, nofun⟩
theorem witness_TallyHistory :
    (∃ t, exec .peerClaim (hearsWith .run true (claimBasis 1)) = .next t ∧ t.tally.table.map Entry.count = [3]) ∧
      (hearsWith .run true (claimBasis 1)).tally.sound ∧ (∀ l q o, Instr.peerClaim ≠ .powerGoodRise l q o) ∧
      Instr.peerClaim ≠ .laneReset :=
  ⟨⟨_, rfl, by decide⟩, by unfold Tally.sound; decide, nofun, nofun⟩
theorem witness_DispositionsInOrder :
    (∃ t, exec .dispositionRelease (releasing 7 false [decidedA 1, decidedA 2]) = .next t) ∧
      (∀ l q o, Instr.dispositionRelease ≠ .powerGoodRise l q o) ∧ Instr.dispositionRelease ≠ .laneReset ∧
      Instr.dispositionRelease ≠ .outputRecordSent := ⟨⟨_, rfl⟩, nofun, nofun, nofun⟩

end Sys2Proof.Machine.Tests
end

section
/-! Proofs about the tally table: what an application finds, touches and adopts, and which entry an eviction takes. -/

namespace Sys2Proof.Machine

/-! ## Finding, touching and adopting -/

theorem key_of_findEntry {t : List Entry} {k : TitleKey} {e : Entry} (h : findEntry t k = some e) : e.key = k :=
  beq_iff_eq.1 (List.find?_some (p := fun x : Entry => x.key == k) h)

/-- R2: a touched entry goes in front of all entries of other titles. -/
theorem putFirst_eq (t : List Entry) (e : Entry) : putFirst t e = e :: t.filter (fun x => x.key ≠ e.key) := by
  simp [putFirst, dropEntry, bne, beq_eq_decide]

theorem adoptMass_eq (held heard : Option Nat) : adoptMass held heard = if held = none then heard else held := by
  cases held <;> rfl

/-! ## The three applications, by whether the title is held -/

section
variable {r : Rules} {t room : List Entry} {lane : Lane} {e : Entry}

theorem applyClaim_held {f : ClaimFields} (hf : findEntry t f.key = some e) (hp : e.parityOk = true) :
    applyClaim r t lane f = .ok
      { table := { e with
          count := claimResult e.count f.basis, lastClaim := some (lane, f.seq)
          refMass := if e.refMass = none then f.mass else e.refMass } :: t.filter (fun x => x.key ≠ f.key)
        counts := some (e.count, claimResult e.count f.basis), held := true } := by
  simp only [applyClaim, hf, hp, Bool.not_true, Bool.false_eq_true, if_false, adoptMass_eq, putFirst_eq,
    key_of_findEntry hf]

theorem applyClaim_absent {f : ClaimFields} (hf : findEntry t f.key = none) (hr : makeRoom r t = .ok room) :
    applyClaim r t lane f = .ok
      { table := { key := f.key, count := claimResult 0 f.basis, refMass := f.mass, certainty := .unsure,
                   lastClaim := some (lane, f.seq), pins := 0 } :: room
        counts := some (0, claimResult 0 f.basis), held := false } := by
  simp only [applyClaim, hf, hr]
  rfl

theorem applyCorrection_held {f : CorrectionFields} (hf : findEntry t f.key = some e) (hp : e.parityOk = true) :
    applyCorrection r t f = .ok
      { table := { e with count := max e.count f.value } :: t.filter (fun x => x.key ≠ f.key)
        counts := some (e.count, max e.count f.value), held := true } := by
  simp only [applyCorrection, hf, hp, Bool.not_true, Bool.false_eq_true, if_false, putFirst_eq, key_of_findEntry hf]

theorem applyCorrection_absent_zero {f : CorrectionFields} (hf : findEntry t f.key = none) (hv : f.value = 0) :
    applyCorrection r t f = .ok { table := t, counts := none, held := false } := by
  simp only [applyCorrection, hf, hv, if_true]

theorem applyCorrection_absent {f : CorrectionFields} (hf : findEntry t f.key = none) (hv : f.value ≠ 0)
    (hr : makeRoom r t = .ok room) :
    applyCorrection r t f = .ok
      { table := { key := f.key, count := f.value, refMass := none, certainty := .unsure, lastClaim := none,
                   pins := 0 } :: room
        counts := some (0, f.value), held := false } := by
  simp only [applyCorrection, hf, hv, hr, if_false]
  rfl

theorem mergeAnswer_held {f : AnswerFields} (hf : findEntry t f.key = some e) (hp : e.parityOk = true) :
    mergeAnswer t f = .ok
      { table := { e with
          count := max e.count f.count
          refMass := if e.refMass = none then f.refMass else e.refMass } :: t.filter (fun x => x.key ≠ f.key)
        counts := some (e.count, max e.count f.count), held := true } := by
  simp only [mergeAnswer, hf, hp, Bool.not_true, Bool.false_eq_true, if_false, adoptMass_eq, putFirst_eq,
    key_of_findEntry hf]

theorem mergeAnswer_absent {f : AnswerFields} (hf : findEntry t f.key = none) :
    mergeAnswer t f = .ok { table := t, counts := none, held := false } := by
  simp only [mergeAnswer, hf]

end

/-! ## The full requirement of a title -/

theorem Rules.classOfPublisher_le {r : Rules} {n : Nat} (h : ∀ g ∈ r.ranges, g.cls ≤ n) (x : Option Nat) :
    r.classOfPublisher x ≤ n := by
  cases x with
  | none => exact Nat.zero_le n
  | some x =>
    simp only [classOfPublisher]
    cases hf : r.ranges.find? fun g => g.covers x with
    | none => exact Nat.zero_le n
    | some g => exact h g (List.mem_of_find?_eq_some hf)

theorem Rules.fullOfKey_of_class {r : Rules} {k : TitleKey} {c : RuleClass} (h : r.classes[r.classOfKey k]? = some c) :
    r.fullOfKey k = c.p + c.s := by
  simp only [fullOfKey, classAt, List.getD_eq_getElem?_getD, h, Option.getD_some, RuleClass.full]

theorem Rules.exists_class_of_key {r : Rules} (hc : r.classes.length = 4) (hg : ∀ g ∈ r.ranges, g.cls ≤ 3)
    (k : TitleKey) : ∃ c, r.classes[r.classOfKey k]? = some c :=
  have hle : r.classOfKey k ≤ 3 := classOfPublisher_le hg _
  ⟨_, List.getElem?_eq_getElem (by omega)⟩

/-! ## The eviction search -/

/-- A pass reads on over sound entries that do not qualify. -/
theorem evictionPass_append {q : Entry → Bool} {l rest : List Entry}
    (h : ∀ e ∈ l, e.parityOk = true ∧ q e = false) (i : Nat) :
    evictionPass q (l ++ rest) i = evictionPass q rest (i + l.length) := by
  induction l generalizing i with
  | nil => rfl
  | cons e l ih =>
    obtain ⟨hp, hq⟩ := h e List.mem_cons_self
    rw [List.cons_append, evictionPass, hp, hq, List.length_cons, Nat.add_comm l.length, ← Nat.add_assoc]
    exact ih (fun x hx => h x (List.mem_cons_of_mem e hx)) (i + 1)

theorem evictionPass_noVictim {q : Entry → Bool} {l : List Entry}
    (h : ∀ e ∈ l, e.parityOk = true ∧ q e = false) (i : Nat) : evictionPass q l i = .noVictim := by
  have := evictionPass_append (rest := []) h i
  rwa [List.append_nil] at this

theorem evictionPass_cons_victim {q : Entry → Bool} {e : Entry} (hp : e.parityOk = true) (hq : q e = true)
    (rest : List Entry) (i : Nat) : evictionPass q (e :: rest) i = .victim i := by
  rw [evictionPass, hp, hq]
  rfl

/-- R22: from the least recently touched entry on, the first that qualifies is the victim. -/
theorem evictionPass_reverse_victim {q : Entry → Bool} {newer older : List Entry} {victim : Entry}
    (hp : ∀ e ∈ newer ++ victim :: older, e.parityOk = true) (hv : q victim = true)
    (ho : ∀ e ∈ older, q e = false) :
    evictionPass q (newer ++ victim :: older).reverse 0 = .victim older.length := by
  have hskip : ∀ e ∈ older.reverse, e.parityOk = true ∧ q e = false := fun e he =>
    have he := List.mem_reverse.1 he
    ⟨hp e (by simp [he]), ho e he⟩
  rw [List.reverse_append, List.reverse_cons, List.append_assoc, evictionPass_append hskip]
  simp only [List.singleton_append, List.length_reverse, Nat.zero_add]
  exact evictionPass_cons_victim (hp victim (by simp)) hv _ _

/-- What the first pass of R22 looks for: an unpinned entry at its class's full requirement. -/
def Entry.isFull (r : Rules) (e : Entry) : Prop :=
  e.pins = 0 ∧ ∀ c, r.classes[r.classOfKey e.key]? = some c → c.p + c.s ≤ e.count

theorem Entry.isFull_iff {r : Rules} (hc : r.classes.length = 4) (hg : ∀ g ∈ r.ranges, g.cls ≤ 3) (e : Entry) :
    (e.pins == 0 && decide (r.fullOfKey e.key ≤ e.count)) = true ↔ e.isFull r := by
  obtain ⟨c, hk⟩ := Rules.exists_class_of_key hc hg e.key
  simp [isFull, hk, Rules.fullOfKey_of_class hk]

/-- Whether the first pass or the second finds it, the victim is named by its distance from the end of the table. -/
theorem evictionSearch_victim {r : Rules} {newer older : List Entry} {victim : Entry}
    (hc : r.classes.length = 4) (hg : ∀ g ∈ r.ranges, g.cls ≤ 3)
    (hp : ∀ e ∈ newer ++ victim :: older, e.parityOk = true)
    (hv : (victim.isFull r ∧ ∀ e ∈ older, ¬ e.isFull r) ∨
      (victim.pins = 0 ∧ (∀ e ∈ newer ++ victim :: older, ¬ e.isFull r) ∧ ∀ e ∈ older, e.pins ≠ 0)) :
    evictionSearch r (newer ++ victim :: older) = .victim older.length := by
  have hnot : ∀ e : Entry, ¬ e.isFull r → (e.pins == 0 && decide (r.fullOfKey e.key ≤ e.count)) = false :=
    fun e h => Bool.eq_false_iff.2 fun hq => h ((Entry.isFull_iff hc hg e).1 hq)
  rw [evictionSearch]
  rcases hv with ⟨hfull, hold⟩ | ⟨hpin, hnone, hold⟩
  · rw [evictionPass_reverse_victim hp ((Entry.isFull_iff hc hg victim).2 hfull) fun e he => hnot e (hold e he)]
  · rw [evictionPass_noVictim fun e he =>
      have he := List.mem_reverse.1 he
      ⟨hp e he, hnot e (hnone e he)⟩]
    exact evictionPass_reverse_victim hp (beq_iff_eq.2 hpin) fun e he => beq_eq_false_iff_ne.2 (hold e he)

/-! ## Making room -/

theorem makeRoom_of_lt (r : Rules) {t : List Entry} (h : t.length < 512) : makeRoom r t = .ok t := if_pos h

/-- The victim leaves; the entries on either side of it keep their order. -/
theorem makeRoom_of_victim {r : Rules} {newer older : List Entry} {victim : Entry}
    (hlen : 512 ≤ (newer ++ victim :: older).length)
    (hs : evictionSearch r (newer ++ victim :: older) = .victim older.length) :
    makeRoom r (newer ++ victim :: older) = .ok (newer ++ older) := by
  have hi : (newer ++ victim :: older).length - 1 - older.length = newer.length := by simp
  have hfull : ¬ (newer ++ victim :: older).length < Config.tallySize := Nat.not_lt.2 hlen
  rw [makeRoom, if_neg hfull, hs]
  simp only [hi, List.eraseIdx_append_of_length_le (Nat.le_refl _), Nat.sub_self, List.eraseIdx_cons_zero]

end Sys2Proof.Machine

open Sys2Proof Sys2Proof.Machine

/-- Settles O35, case by case of R8, R11, R13 and R14, and of the two passes of R22. -/
theorem tallyTableOperations : Obligations.TallyTableOperations := by
  unfold Obligations.TallyTableOperations
  intro r t lane
  refine ⟨fun f => ⟨fun e hf hp => applyClaim_held hf hp, fun room hf hr => ?_⟩,
    fun f => ⟨fun e hf hp => applyCorrection_held hf hp, applyCorrection_absent_zero,
      fun room hf hv hr => applyCorrection_absent hf hv hr⟩,
    fun f => ⟨fun e hf hp => mergeAnswer_held hf hp, mergeAnswer_absent⟩, makeRoom_of_lt r, ?_⟩
  · have hn : claimResult 0 f.basis = min 63 (f.basis + 1) := by simp [claimResult, Config.maxCount]
    simpa only [hn] using applyClaim_absent (lane := lane) hf hr
  · rintro hp hlen hc hg full newer victim older rfl hv
    exact makeRoom_of_victim hlen (evictionSearch_victim hc hg hp hv)
end

section
/-! Proofs about READ ITEM: which record a queue position names, and the reply to each answer the lookup can give. -/

namespace Sys2Proof.Machine

variable {s : State}

/-! ## The record at a queue position -/

theorem itemAt_zero : itemAt 0 s = none := rfl

theorem itemAt_succ (i : Nat) : itemAt (i + 1) s = s.arrival.items[i]? := if_pos (Nat.le_add_left 1 i)

/-- R54: no record stands at position 0, nor at any position behind the tail. -/
theorem itemAt_eq_none_iff {position : Nat} :
    itemAt position s = none ↔ position = 0 ∨ s.arrival.items.length < position := by
  cases position with
  | zero => simp [itemAt_zero]
  | succ i => simp [itemAt_succ]

/-- R27: positions count from the head, the first being 1. -/
theorem itemAt_of_append {before behind : List Item} {it : Item} (h : s.arrival.items = before ++ it :: behind) :
    itemAt (before.length + 1) s = some it := by
  rw [itemAt_succ, h, List.getElem?_append_right (Nat.le_refl _), Nat.sub_self, List.getElem?_cons_zero]

/-! ## READ ITEM (R54, R193) -/

theorem exec_readItem (s : State) : exec .readItem s = .next (readItem s) := rfl

theorem servedState_iff {st : StationState} : servedState st = true ↔ st ≠ .strapFault := bne_iff_ne

theorem buffer_of_serving {r : Request} {rest : List Request} (h : Serving s r rest) : s.port.buffer = r :: rest :=
  have ⟨_, _, _, hbuffer⟩ := h
  hbuffer

section
variable {r : Request} {rest : List Request} (h : Serving s r rest) (hrow : r.row = .readItem) (hform : r.formOk = true)
include h hrow hform

theorem readItem_strapFault (hs : s.station.state = .strapFault) :
    readItem s = s.replied rest [r.kind, ResultCode.refusedState.code] := by
  have hstate : servedState s.station.state = false := by rw [hs]; rfl
  exact (serve_refusedState h hrow hform hstate).trans (answerRequest_eq (buffer_of_serving h))

theorem readItem_absent (hs : s.station.state ≠ .strapFault) (hi : itemAt (natAt r.payload 0) s = none) :
    readItem s = s.replied rest [r.kind, ResultCode.none.code] := by
  rw [readItem, serve_taken h hrow hform (servedState_iff.2 hs)]
  simp only [hi]
  exact answerRequest_eq (buffer_of_serving h)

theorem readItem_present {it : Item} (hs : s.station.state ≠ .strapFault)
    (hi : itemAt (natAt r.payload 0) s = some it) :
    readItem s = s.replied rest ([r.kind, ResultCode.done.code] ++ itemContent it) := by
  rw [readItem, serve_taken h hrow hform (servedState_iff.2 hs)]
  simp only [hi]
  exact answerRequest_eq (buffer_of_serving h)

end

end Sys2Proof.Machine

open Sys2Proof Sys2Proof.Machine

/-- Settles O8: the three answers of R54, a position being found by splitting the queue at it. -/
theorem readItemReplies : Obligations.ReadItemReplies := by
  unfold Obligations.ReadItemReplies
  intro s rest n h
  have position : natAt [n] 0 = n.toNat := rfl
  refine ⟨fun hs => ?_, fun hs => ⟨fun hout => ?_, fun before it behind hitems hn => ?_⟩⟩
  · rw [exec_readItem, readItem_strapFault h rfl rfl hs]
    rfl
  · have hnone : itemAt n.toNat s = none :=
      itemAt_eq_none_iff.2 (hout.imp_left fun hzero => congrArg BitVec.toNat hzero)
    rw [exec_readItem, readItem_absent h rfl rfl hs (position ▸ hnone)]
    rfl
  · have hsome : itemAt n.toNat s = some it := hn ▸ itemAt_of_append hitems
    rw [exec_readItem, readItem_present h rfl rfl hs (position ▸ hsome)]
    rfl
end

section
/-! Proofs about READ ROSTER and READ STATUS: which lanes have a record, what a record shows for the own lane, and the
reply in each state. -/

namespace Sys2Proof.Machine

variable {s : State}

/-! ## Refusals, as the reply they send (R191, R193) -/

section
variable {row : RequestRow} {taken : StationState → Bool} {take : Request → State → State} {r : Request}
  {rest : List Request} (h : Serving s r rest) (hrow : r.row = row)
include h hrow

theorem serve_refusedForm_replied (hform : r.formOk = false) :
    serve row taken take s = s.replied rest [r.kind, ResultCode.refusedForm.code] :=
  (serve_refusedForm h hrow hform).trans (answerRequest_eq (buffer_of_serving h))

theorem serve_strapFault_replied (hform : r.formOk = true) (hs : s.station.state = .strapFault) :
    serve row servedState take s = s.replied rest [r.kind, ResultCode.refusedState.code] :=
  have hstate : servedState s.station.state = false := by rw [hs]; rfl
  (serve_refusedState h hrow hform hstate).trans (answerRequest_eq (buffer_of_serving h))

end

/-! ## READ ROSTER (R66, R67) -/

/-- A request for the roster record of the lane numbered `n` (11.5.2). -/
def rosterRequest (n : Byte) : Request := { kind := 10, length := 1, payload := [n] }

/-- What follows the result code of a READ ROSTER reply: state, last sequence and role (11.5.3). -/
def rosterContent (x : LaneRecord) : List Byte := [flagByte x.present, x.lastSeq, x.role.code]

theorem exec_readRoster (s : State) : exec .readRoster s = .next (readRoster s) := rfl

/-- R67: the lanes that have a record are 1 to 31. -/
theorem rosterRequest_formOk_iff {n : Byte} : (rosterRequest n).formOk = true ↔ 1 ≤ n.toNat ∧ n.toNat ≤ 31 := by
  have hform : (rosterRequest n).formOk = (decide (1 ≤ n.toNat) && decide (n.toNat ≤ 31)) := rfl
  simp [hform]

theorem rosterRequest_formOk_eq_false {n : Byte} (hn : n = 0 ∨ 31 < n.toNat) : (rosterRequest n).formOk = false := by
  rw [Bool.eq_false_iff, Ne, rosterRequest_formOk_iff]
  rcases hn with rfl | hlarge
  · decide
  · omega

/-- R66: a lane number of the roster names this station's own lane if it is the strapped number, the record then showing
the own tally sequence. -/
theorem rosterContent_ofNat {n : Nat} (hn : n ≤ 31) (s : State) :
    let x := s.claim.roster.getD (n - 1) {}
    rosterContent (rosterRecord (BitVec.ofNat 5 n) s) =
      [flagByte x.present, if n = s.station.lane.toNat then s.claim.ownSeq else x.lastSeq, x.role.code] := by
  have hlane : (BitVec.ofNat 5 n).toNat = n := by rw [BitVec.toNat_ofNat, Nat.mod_eq_of_lt (by omega)]
  have hown : BitVec.ofNat 5 n = s.station.lane ↔ n = s.station.lane.toNat := by
    rw [← BitVec.toNat_inj, hlane]
  by_cases h : n = s.station.lane.toNat
  · simp [rosterRecord, rosterContent, hown.2 h, ← h]
  · simp [rosterRecord, rosterContent, hlane, hown, h]

section
variable {n : Byte} {rest : List Request} (h : Serving s (rosterRequest n) rest)
include h

theorem readRoster_refusedForm (hn : n = 0 ∨ 31 < n.toNat) :
    readRoster s = s.replied rest [10, ResultCode.refusedForm.code] :=
  serve_refusedForm_replied h rfl (rosterRequest_formOk_eq_false hn)

variable (hform : (rosterRequest n).formOk = true)
include hform

theorem readRoster_strapFault (hs : s.station.state = .strapFault) :
    readRoster s = s.replied rest [10, ResultCode.refusedState.code] :=
  serve_strapFault_replied h rfl hform hs

theorem readRoster_served (hs : s.station.state ≠ .strapFault) :
    readRoster s = s.replied rest
      ([10, ResultCode.done.code] ++ rosterContent (rosterRecord (BitVec.ofNat 5 n.toNat) s)) :=
  (serve_taken h rfl hform (servedState_iff.2 hs)).trans (answerRequest_eq (buffer_of_serving h))

end

/-! ## READ STATUS (R193) -/

/-- A request for the status, which names nothing (11.5.2). -/
def statusRequest : Request := { kind := 11, length := 0, payload := [] }

theorem exec_readStatus (s : State) : exec .readStatus s = .next (readStatus s) := rfl

section
variable {rest : List Request} (h : Serving s statusRequest rest)
include h

theorem readStatus_strapFault (hs : s.station.state = .strapFault) :
    readStatus s = s.replied rest [11, ResultCode.refusedState.code] :=
  serve_strapFault_replied h rfl rfl hs

theorem readStatus_served (hs : s.station.state ≠ .strapFault) :
    readStatus s = s.replied rest ([11, ResultCode.done.code] ++ statusContent s) :=
  (serve_taken h rfl rfl (servedState_iff.2 hs)).trans (answerRequest_eq (buffer_of_serving h))

end

end Sys2Proof.Machine

open Sys2Proof Sys2Proof.Machine

/-- Settles O9: the lane numbers of R67 decide the form, then the state decides between refusal and reply. -/
theorem readRosterAndStatusReply : Obligations.ReadRosterAndStatusReply := by
  unfold Obligations.ReadRosterAndStatusReply
  refine fun s rest => ⟨fun n h => ⟨fun hn => ?_, fun hlow hhigh => ?_⟩, fun h => ⟨fun hs => ?_, fun hs => ?_⟩⟩
  · exact congrArg Host.Outcome.next (readRoster_refusedForm h hn)
  · have hform := rosterRequest_formOk_iff.2 ⟨hlow, hhigh⟩
    refine ⟨fun hs => congrArg Host.Outcome.next (readRoster_strapFault h hform hs), fun hs => ?_⟩
    rw [exec_readRoster, readRoster_served h hform hs, rosterContent_ofNat hhigh]
    rfl
  · exact congrArg Host.Outcome.next (readStatus_strapFault h hs)
  · rw [exec_readStatus, readStatus_served h hs]
    rfl
end

section
/-! Proofs about the rule unit's CONFIGURE: the clamping of a value, the reply, and what each selector stores. -/

namespace Sys2Proof.Machine

variable {s : State}

/-! ## Clamping and the reply (R102, R103) -/

theorem clampTo_eq {low high : Nat} (h : low ≤ high) (v : Nat) : clampTo low high v = max low (min high v) := by
  unfold clampTo
  split
  · omega
  · split <;> omega

theorem clampTo_zero (high v : Nat) : clampTo 0 high v = min high v :=
  (clampTo_eq (Nat.zero_le high) v).trans (Nat.zero_max _)

/-- R196: a flag is stored as yes or no, and shown as 1 or 0. -/
theorem flagByte_readFlag (e : Byte) : flagByte (readFlag e) = if e = 0 then 0 else 1 := by
  by_cases h : e = 0 <;> simp [flagByte, readFlag, h]

/-- R102: the reply names DONE exactly where every value is stored as carried. -/
theorem configureReply_eq {r : Request} {rest : List Request} (h : s.port.buffer = r :: rest) {clamped : Bool}
    {kept : Prop} [Decidable kept] (hkept : clamped = false ↔ kept) (stored : List Byte) :
    configureReply r clamped stored s = s.replied rest
      ([r.kind, if kept then 0 else 1, byteAt r.payload 0, byteAt r.payload 1] ++ stored) := by
  have hcode : (if clamped then ResultCode.doneClamped else .done).code = if kept then 0 else 1 := by
    by_cases hk : kept
    · rw [hkept.2 hk, if_pos hk]; rfl
    · rw [Bool.eq_true_of_not_eq_false fun hc => hk (hkept.1 hc), if_neg hk]; rfl
  rw [configureReply, answerRequest_eq h, hcode]
  rfl

theorem buffer_setRules_of_serving {r : Request} {rest : List Request} (h : Serving s r rest) (x : Rules) :
    (s.setRules x).port.buffer = r :: rest := buffer_of_serving h

theorem configureState_iff {st : StationState} : configureState st = true ↔ st = .configuring := beq_iff_eq

theorem exec_configureTimes (s : State) : exec .configureTimes s = .next (configureTimes s) := rfl

theorem exec_configureClass (s : State) : exec .configureClass s = .next (configureClass s) := rfl

theorem exec_configureRange (s : State) : exec .configureRange s = .next (configureRange s) := rfl

/-- R102: a CONFIGURE of correct form is refused in every state but CONFIGURING. -/
theorem serve_configure_refusedState {row : RequestRow} {take : Request → State → State} {r : Request}
    {rest : List Request} (h : Serving s r rest) (hrow : r.row = row) (hform : r.formOk = true)
    (hs : s.station.state ≠ .configuring) : serve row configureState take s = s.replied rest [r.kind, 3] :=
  have hstate : configureState s.station.state = false := beq_eq_false_iff_ne.2 hs
  (serve_refusedState h hrow hform hstate).trans (answerRequest_eq (buffer_of_serving h))

/-! ## The three selectors -/

section
variable {rest : List Request}

/-- A CONFIGURE TIMES (11.5.2). -/
def timesRequest (d0 d1 w x : Byte) : Request := { kind := 2, length := 6, payload := [1, 0, d0, d1, w, x] }

/-- A CONFIGURE CLASS of class `k` (11.5.2). -/
def classRequest (k p q r f : Byte) : Request := { kind := 2, length := 6, payload := [2, k, p, q, r, f] }

/-- A CONFIGURE RANGE of range `i` (11.5.2). -/
def rangeRequest (i e l0 l1 l2 h0 h1 h2 k : Byte) : Request :=
  { kind := 2, length := 10, payload := [3, i, e, l0, l1, l2, h0, h1, h2, k] }

theorem configureTimes_configuring {d0 d1 w x : Byte} (h : Serving s (timesRequest d0 d1 w x) rest)
    (hs : s.station.state = .configuring) :
    let n := (d1 ++ d0).toNat
    let dwell := clampTo 100 5000 n
    let inquiry := clampTo 5 100 w.toNat
    let settle := clampTo 5 100 x.toNat
    configureTimes s =
      (s.setRules { s.rules with dwell := dwell, inquiryWindow := inquiry, settleWindow := settle }).replied rest
        [2, if dwell = n ∧ inquiry = w.toNat ∧ settle = x.toNat then 0 else 1, 1, 0, byteOf dwell, byteOf (dwell / 256),
          byteOf inquiry, byteOf settle] := by
  intro n dwell inquiry settle
  have hkept : (dwell != n || inquiry != w.toNat || settle != x.toNat) = false ↔
      dwell = n ∧ inquiry = w.toNat ∧ settle = x.toNat := by simp [and_assoc]
  exact (serve_taken h rfl rfl (configureState_iff.2 hs)).trans
    (configureReply_eq (buffer_setRules_of_serving h _) hkept _)

theorem classRequest_formOk (k p q r f : Byte) : (classRequest k p q r f).formOk = decide (k.toNat ≤ 3) := rfl

theorem configureClass_refusedForm {k p q r f : Byte} (h : Serving s (classRequest k p q r f) rest)
    (hk : 3 < k.toNat) : configureClass s = s.replied rest [2, 5] :=
  have hform := (classRequest_formOk k p q r f).trans (decide_eq_false (Nat.not_le.2 hk))
  serve_refusedForm_replied h rfl hform

theorem configureClass_configuring {k p q r f : Byte} (h : Serving s (classRequest k p q r f) rest)
    (hk : k.toNat ≤ 3) (hs : s.station.state = .configuring) :
    let c := clampClass p.toNat q.toNat r.toNat f.toNat
    configureClass s =
      (s.setRules { s.rules with classes := s.rules.classes.set k.toNat c }).replied rest
        [2, if c.p = p.toNat ∧ c.s = q.toNat then 0 else 1, 2, k, byteOf c.p, byteOf c.s, byteOf c.r, byteOf c.f] := by
  intro c
  have hform := (classRequest_formOk k p q r f).trans (decide_eq_true hk)
  have hkept : (c.p != p.toNat || c.s != q.toNat) = false ↔ c.p = p.toNat ∧ c.s = q.toNat := by simp
  exact (serve_taken h rfl hform (configureState_iff.2 hs)).trans
    (configureReply_eq (buffer_setRules_of_serving h _) hkept _)

theorem rangeRequest_formOk (i e l0 l1 l2 h0 h1 h2 k : Byte) :
    (rangeRequest i e l0 l1 l2 h0 h1 h2 k).formOk = decide (i.toNat ≤ 7) := rfl

section
variable {i e l0 l1 l2 h0 h1 h2 k : Byte} (h : Serving s (rangeRequest i e l0 l1 l2 h0 h1 h2 k) rest)
include h

theorem configureRange_refusedForm (hi : 7 < i.toNat) : configureRange s = s.replied rest [2, 5] :=
  have hform := (rangeRequest_formOk i e l0 l1 l2 h0 h1 h2 k).trans (decide_eq_false (Nat.not_le.2 hi))
  serve_refusedForm_replied h rfl hform

theorem configureRange_configuring (hi : i.toNat ≤ 7) (hs : s.station.state = .configuring) :
    let low := l0.toNat + 256 * l1.toNat + 65536 * l2.toNat
    let high := h0.toNat + 256 * h1.toNat + 65536 * h2.toNat
    let g := clampRange (readFlag e) low high k.toNat
    configureRange s =
      (s.setRules { s.rules with ranges := s.rules.ranges.set i.toNat g }).replied rest
        ([2, if g.low = low ∧ g.high = high ∧ g.cls = k.toNat then 0 else 1, 3, i, flagByte (readFlag e)] ++
          tripleBytes g.low ++ tripleBytes g.high ++ [byteOf g.cls]) := by
  intro low high g
  have hform := (rangeRequest_formOk i e l0 l1 l2 h0 h1 h2 k).trans (decide_eq_true hi)
  have hkept : (g.low != low || g.high != high || g.cls != k.toNat) = false ↔
      g.low = low ∧ g.high = high ∧ g.cls = k.toNat := by simp [and_assoc]
  exact (serve_taken h rfl hform (configureState_iff.2 hs)).trans
    (configureReply_eq (buffer_setRules_of_serving h _) hkept _)

end

end

end Sys2Proof.Machine

open Sys2Proof Sys2Proof.Machine

/-- Settles O2: the three selectors taken in CONFIGURING, their indices judged first, and the refusal they share. -/
theorem configureRuleUnit : Obligations.ConfigureRuleUnit := by
  unfold Obligations.ConfigureRuleUnit
  refine fun s rest => ⟨fun d0 d1 w x h hs => ?_, fun k p q r f h => ⟨fun hk hs => ?_, fun hk => ?_⟩,
    fun i e l0 l1 l2 h0 h1 h2 k h => ⟨fun hi hs => ?_, fun hi => ?_⟩, fun r h hform hs hrow => ?_⟩
  · rw [exec_configureTimes, configureTimes_configuring h hs]
    simp only [clampTo_eq (show 100 ≤ 5000 by decide), clampTo_eq (show 5 ≤ 100 by decide)]
    rfl
  · rw [exec_configureClass, configureClass_configuring h hk hs]
    simp only [clampClass, clampTo_eq (show 1 ≤ 2 by decide), clampTo_zero, byteOf, BitVec.ofNat_toNat,
      BitVec.setWidth_eq]
    rfl
  · exact congrArg Host.Outcome.next (configureClass_refusedForm h hk)
  · rw [exec_configureRange, configureRange_configuring h hi hs]
    simp only [clampRange, clampTo_zero, flagByte_readFlag]
    rfl
  · exact congrArg Host.Outcome.next (configureRange_refusedForm h hi)
  · unfold RefusedState
    rcases hrow with hrow | hrow | hrow <;> rw [hrow]
    all_goals exact congrArg Host.Outcome.next (serve_configure_refusedState h hrow hform hs)
end

section
/-! Proofs about the pretest: an identifier passes when its digits, weighted, sum to a multiple of 10, the check digit
weighing 1. What a changed digit adds to that sum decides whether the change is found. -/

namespace Sys2Proof.Machine

/-! ## Weighted sums of a list -/

/-- The sum of a list's numbers, each times the weight at its place. -/
def weightedSum (ds ws : List Nat) : Nat := (List.zipWith (· * ·) ds ws).sum

/-- A number replaced changes the weighted sum by its difference times its weight. -/
theorem weightedSum_set (d : Nat) {ds ws : List Nat} {i : Nat} (hi : i < ds.length) :
    weightedSum (ds.set i d) ws + ds.getD i 0 * ws.getD i 0 = weightedSum ds ws + d * ws.getD i 0 := by
  induction ds generalizing ws i with
  | nil => cases hi
  | cons x ds ih =>
    cases ws with
    | nil => simp [weightedSum]
    | cons w ws =>
      cases i with
      | zero =>
        simp only [weightedSum, List.set_cons_zero, List.zipWith_cons_cons, List.sum_cons, List.getD_cons_zero]
        omega
      | succ i =>
        have := ih (ws := ws) (Nat.lt_of_succ_lt_succ hi)
        simp only [weightedSum, List.set_cons_succ, List.zipWith_cons_cons, List.sum_cons,
          List.getD_cons_succ] at this ⊢
        omega

/-! ## The sum an identifier's check digit completes (R108) -/

/-- The weights of the twelve digits, and 1 for the check digit. -/
def checkWeights : List Nat := [3, 7, 9, 3, 7, 9, 3, 7, 9, 3, 7, 9, 1]

/-- The number a decimal digit's character stands for (R196). -/
def digitValue (c : Byte) : Nat := c.toNat - 48

/-- The weighted sum of an identifier's twelve digits and its check digit. -/
def checkTotal (chars : List Byte) : Nat := weightedSum (chars.map digitValue) checkWeights

/-- The number of the digit at a place of an identifier. -/
def digitAt (chars : List Byte) (i : Nat) : Nat := digitValue (chars.getD i 0)

theorem getD_map_digitValue (chars : List Byte) (i : Nat) : (chars.map digitValue).getD i 0 = digitAt chars i :=
  List.getD_map chars (0 : Byte) digitValue

theorem digitValue_getD (chars : List Byte) (i : Nat) : digitValue (chars.getD i 0) = digitAt chars i := rfl

/-- The sum of R108, the weights 3, 7 and 9 gathered. -/
def digitSum (chars : List Byte) : Nat :=
  3 * (digitAt chars 0 + digitAt chars 3 + digitAt chars 6 + digitAt chars 9) +
    7 * (digitAt chars 1 + digitAt chars 4 + digitAt chars 7 + digitAt chars 10) +
    9 * (digitAt chars 2 + digitAt chars 5 + digitAt chars 8 + digitAt chars 11)

/-- Every character of an identifier is a decimal digit (R107). -/
def AllDecimal (chars : List Byte) : Prop := ∀ c ∈ chars, 48 ≤ c.toNat ∧ c.toNat ≤ 57

theorem isDigitChar_iff {c : Byte} : isDigitChar c = true ↔ 48 ≤ c.toNat ∧ c.toNat ≤ 57 := by
  simp [isDigitChar]

theorem exists_of_length_thirteen {chars : List Byte} (h : chars.length = 13) :
    ∃ a b c d e f g h i j k l m, chars = [a, b, c, d, e, f, g, h, i, j, k, l, m] := by
  match chars, h with
  | [a, b, c, d, e, f, g, h, i, j, k, l, m], _ => exact ⟨a, b, c, d, e, f, g, h, i, j, k, l, m, rfl⟩

section
variable {chars : List Byte} (hlen : chars.length = 13)
include hlen

theorem checkDigit_eq : checkDigit (chars.map digitValue) = (10 - digitSum chars % 10) % 10 := by
  obtain ⟨a, b, c, d, e, f, g, h, i, j, k, l, m, rfl⟩ := exists_of_length_thirteen hlen
  have hsum : (List.zipWith (· * ·) (([a, b, c, d, e, f, g, h, i, j, k, l, m].map digitValue).take 12)
      [3, 7, 9, 3, 7, 9, 3, 7, 9, 3, 7, 9]).sum = digitSum [a, b, c, d, e, f, g, h, i, j, k, l, m] := by
    simp only [digitSum, digitAt, List.map_cons, List.take_succ_cons, List.take_zero, List.zipWith_cons_cons,
      List.zipWith_nil_left, List.sum_cons, List.sum_nil, List.getD_cons_zero, List.getD_cons_succ]
    omega
  rw [checkDigit, hsum]

theorem checkTotal_eq : checkTotal chars = digitSum chars + digitAt chars 12 := by
  obtain ⟨a, b, c, d, e, f, g, h, i, j, k, l, m, rfl⟩ := exists_of_length_thirteen hlen
  simp only [checkTotal, weightedSum, checkWeights, digitSum, digitAt, List.map_cons, List.map_nil,
    List.zipWith_cons_cons, List.zipWith_nil_left, List.sum_cons, List.sum_nil, List.getD_cons_zero,
    List.getD_cons_succ]
  omega

theorem getD_mem {i : Nat} (hi : i < 13) : chars.getD i 0 ∈ chars := by
  rw [List.getD_eq_getElem _ _ (hlen ▸ hi)]
  exact List.getElem_mem _

theorem digitAt_le {i : Nat} (hi : i < 13) (hdec : AllDecimal chars) : digitAt chars i ≤ 9 := by
  have hrange := hdec _ (getD_mem hlen hi)
  unfold digitAt digitValue
  omega

theorem digitSum_le (hdec : AllDecimal chars) : digitSum chars ≤ 684 := by
  have hdigit : ∀ i < 12, digitAt chars i ≤ 9 := fun i hi => digitAt_le hlen (by omega) hdec
  simp only [Nat.forall_lt_succ_right, Nat.not_lt_zero, false_implies, implies_true, true_and] at hdigit
  unfold digitSum
  omega

/-- R107, R108: the three conditions of the pretest, in the order of the rules. -/
theorem pretest_iff {part : BitVec 16} : pretest chars part = true ↔
    AllDecimal chars ∧ part.toNat ≤ 9999 ∧ digitAt chars 12 = (10 - digitSum chars % 10) % 10 := by
  have hdef : pretest chars part = (chars.all isDigitChar && decide (part.toNat ≤ 9999) &&
    ((chars.map digitValue).getD 12 0 == checkDigit (chars.map digitValue))) := rfl
  simp only [hdef, getD_map_digitValue, checkDigit_eq hlen, Bool.and_eq_true, List.all_eq_true, isDigitChar_iff,
    decide_eq_true_eq, beq_iff_eq, and_assoc, AllDecimal]

/-- The check digit is right exactly when it completes the sum to a multiple of 10. -/
theorem pretest_iff_ten_dvd {part : BitVec 16} : pretest chars part = true ↔
    AllDecimal chars ∧ part.toNat ≤ 9999 ∧ 10 ∣ checkTotal chars := by
  rw [pretest_iff hlen, checkTotal_eq hlen]
  refine and_congr_right fun hdec => and_congr_right fun _ => ?_
  have hdigit := digitAt_le hlen (show 12 < 13 by decide) hdec
  omega

end

/-! ## Errors found and not found (R108's notes) -/

/-- Every weight is prime to 10. -/
theorem checkWeights_prime_to_ten : ∀ i < 13,
    checkWeights.getD i 0 = 1 ∨ checkWeights.getD i 0 = 3 ∨ checkWeights.getD i 0 = 7 ∨ checkWeights.getD i 0 = 9 := by
  decide

/-- The weights of two adjacent digits of the first twelve differ by 4, 2 or 6. -/
theorem checkWeights_adjacent : ∀ i < 11,
    (checkWeights.getD i 0 = 3 ∧ checkWeights.getD (i + 1) 0 = 7) ∨
      (checkWeights.getD i 0 = 7 ∧ checkWeights.getD (i + 1) 0 = 9) ∨
      (checkWeights.getD i 0 = 9 ∧ checkWeights.getD (i + 1) 0 = 3) := by
  decide

/-- An identifier with the digits at a place and behind it exchanged. -/
def exchanged (chars : List Byte) (i : Nat) : List Byte :=
  (chars.set i (chars.getD (i + 1) 0)).set (i + 1) (chars.getD i 0)

theorem digitAt_set_ne {chars : List Byte} {i j : Nat} (h : i ≠ j) (c : Byte) :
    digitAt (chars.set i c) j = digitAt chars j := by
  simp [digitAt, List.getElem?_set_ne h]

theorem checkTotal_set {chars : List Byte} {i : Nat} (hi : i < chars.length) (c : Byte) :
    checkTotal (chars.set i c) + digitAt chars i * checkWeights.getD i 0 =
      checkTotal chars + digitValue c * checkWeights.getD i 0 := by
  have hset := weightedSum_set (digitValue c) (ds := chars.map digitValue) (ws := checkWeights) (i := i)
    (by rwa [List.length_map])
  rwa [getD_map_digitValue, ← List.map_set] at hset

theorem checkTotal_exchanged {chars : List Byte} {i : Nat} (hi : i + 1 < chars.length) :
    checkTotal (exchanged chars i) + digitAt chars i * checkWeights.getD i 0 +
        digitAt chars (i + 1) * checkWeights.getD (i + 1) 0 =
      checkTotal chars + digitAt chars (i + 1) * checkWeights.getD i 0 +
        digitAt chars i * checkWeights.getD (i + 1) 0 := by
  have hfirst := checkTotal_set (Nat.lt_of_succ_lt hi) (chars.getD (i + 1) 0)
  have hsecond := checkTotal_set (chars := chars.set i (chars.getD (i + 1) 0)) (i := i + 1)
    (by rwa [List.length_set]) (chars.getD i 0)
  rw [digitAt_set_ne (Nat.lt_add_one i).ne] at hsecond
  simp only [digitValue_getD] at hfirst hsecond
  rw [exchanged]
  omega

section
variable {chars : List Byte} {part : BitVec 16} {i : Nat} (hlen : chars.length = 13)
include hlen

/-- R108: a weight prime to 10 makes a multiple of 10 of no difference of two digits. -/
theorem pretest_set_eq_false {c : Byte} (hi : i < 13) (hc : c ≠ chars.getD i 0) (hpass : pretest chars part = true) :
    pretest (chars.set i c) part = false := by
  rw [Bool.eq_false_iff]
  intro hpass'
  obtain ⟨hdec, -, hten⟩ := (pretest_iff_ten_dvd hlen).1 hpass
  obtain ⟨hdec', -, hten'⟩ := (pretest_iff_ten_dvd (by rwa [List.length_set])).1 hpass'
  have hold := hdec _ (getD_mem hlen hi)
  have hnew := hdec' c (List.mem_set (hlen ▸ hi) c)
  have hne : c.toNat ≠ (chars.getD i 0).toNat := fun h => hc (BitVec.eq_of_toNat_eq h)
  have htotal := checkTotal_set (hlen ▸ hi) c
  unfold digitAt digitValue at htotal
  rcases checkWeights_prime_to_ten i hi with hw | hw | hw | hw <;> rw [hw] at htotal <;> omega

theorem allDecimal_exchanged (hi : i + 1 < 13) (hdec : AllDecimal chars) : AllDecimal (exchanged chars i) := by
  intro c hc
  rcases List.mem_or_eq_of_mem_set hc with hc | rfl
  · rcases List.mem_or_eq_of_mem_set hc with hc | rfl
    · exact hdec c hc
    · exact hdec _ (getD_mem hlen hi)
  · exact hdec _ (getD_mem hlen (Nat.lt_of_succ_lt hi))

/-- R108: the difference of two adjacent weights is even and no multiple of 5, so an exchange keeps the sum's last digit
where the digits' difference is a multiple of 5. -/
theorem pretest_exchanged_iff (hi : i < 11) (hpass : pretest chars part = true) :
    pretest (exchanged chars i) part = true ↔
      digitAt chars i = digitAt chars (i + 1) ∨ digitAt chars i = digitAt chars (i + 1) + 5 ∨
        digitAt chars (i + 1) = digitAt chars i + 5 := by
  obtain ⟨hdec, hpart, hten⟩ := (pretest_iff_ten_dvd hlen).1 hpass
  have hlen' : (exchanged chars i).length = 13 := by simpa [exchanged] using hlen
  have hdec' : AllDecimal (exchanged chars i) := allDecimal_exchanged hlen (by omega) hdec
  rw [pretest_iff_ten_dvd hlen', and_iff_right hdec', and_iff_right hpart]
  have hfirst := digitAt_le hlen (show i < 13 by omega) hdec
  have hsecond := digitAt_le hlen (show i + 1 < 13 by omega) hdec
  have htotal := checkTotal_exchanged (show i + 1 < chars.length by omega)
  rcases checkWeights_adjacent i hi with ⟨hw, hw'⟩ | ⟨hw, hw'⟩ | ⟨hw, hw'⟩ <;> rw [hw, hw'] at htotal <;> omega

end

end Sys2Proof.Machine

open Sys2Proof Sys2Proof.Machine

/-- Settles O30: the form of R107 and the digit of R108, its greatest sum, and the two kinds of error. -/
theorem pretestChecksDigit : Obligations.PretestChecksDigit := by
  unfold Obligations.PretestChecksDigit
  intro chars part hlen
  exact ⟨pretest_iff hlen, digitSum_le hlen, fun i c hi hc hpass => pretest_set_eq_false hlen hi hc hpass,
    fun i hi hpass => pretest_exchanged_iff hlen hi hpass⟩
end

section
/-! Proofs about the mass check: the band on either side of the reference mass, and when the check is made. -/

namespace Sys2Proof.Machine

theorem withinBand_iff {m ref band : Nat} : withinBand m ref band = true ↔ m ≤ ref + band ∧ ref ≤ m + band := by
  unfold withinBand
  rw [decide_eq_true_iff]
  omega

/-- R109: the greatest band is that of 60000 g at the greatest tolerance, 255 / 1024. -/
theorem massBand_le {c : RuleClass} {ref : Nat} (href : ref ≤ 60000) (hr : c.r ≤ 255) (hf : c.f ≤ 255) :
    massBand c ref ≤ 14941 := by
  have hprod : ref * c.r ≤ 60000 * 255 := Nat.mul_le_mul href hr
  unfold massBand
  omega

theorem massBand_of_r_zero {c : RuleClass} (hr : c.r = 0) (ref : Nat) : massBand c ref = c.f := by
  simp [massBand, hr]

theorem usableGrams_eq_none {mass : Mass} (h : ∀ g, mass ≠ .usable g) : mass.usableGrams = none := by
  cases mass with
  | usable g => exact absurd rfl (h g)
  | clamped => rfl
  | absent => rfl

theorem massCheck_usable (c : RuleClass) (count ref m : Nat) :
    massCheck c count (some ref) (.usable m) =
      if 1 ≤ count then if withinBand m ref (massBand c ref) then .matched else .mismatch else .skipped := rfl

/-- R110: the three things without which the check is not made. -/
theorem massCheck_skipped {count : Nat} {ref : Option Nat} {mass : Mass} (c : RuleClass)
    (h : count = 0 ∨ ref = none ∨ ∀ g, mass ≠ .usable g) : massCheck c count ref mass = .skipped := by
  rcases h with rfl | rfl | hmass
  · cases ref <;> cases mass <;> rfl
  · rfl
  · unfold massCheck
    rw [usableGrams_eq_none hmass]
    cases ref <;> rfl

end Sys2Proof.Machine

open Sys2Proof Sys2Proof.Machine

/-- Settles O32: the check not made, and the check made with its band. -/
theorem massCheckBand : Obligations.MassCheckBand := by
  unfold Obligations.MassCheckBand
  refine fun c count ref mass => ⟨massCheck_skipped c, ?_⟩
  rintro m x hcount rfl rfl band
  rw [massCheck_usable, if_pos hcount]
  exact ⟨fun hin => if_pos (withinBand_iff.2 hin), fun hout => if_neg (mt withinBand_iff.1 hout), massBand_le,
    fun hr => massBand_of_r_zero hr x⟩
end

section
/-! Proofs about the deferral: the lanes 1 to 31 stand for the 31 residues modulo 31, and both the backoff and the whole
deferral determine the residue of the lane. -/

namespace Sys2Proof.Machine

/-- The backoff term of the deferral, in bit times (R142). -/
def backoff (lane : Lane) (attempts : Nat) : Nat :=
  if attempts = 0 then 0 else 16 * ((lane.toNat + 7 * attempts) % 31 + 1)

theorem deferral_eq (lane : Lane) (yield : Bool) (attempts : Nat) :
    deferral lane yield attempts = 24 + 2 * lane.toNat + (if yield then 64 else 0) + backoff lane attempts := rfl

@[simp] theorem backoff_zero (lane : Lane) : backoff lane 0 = 0 := rfl

theorem backoff_of_ne_zero {attempts : Nat} (ha : attempts ≠ 0) (lane : Lane) :
    backoff lane attempts = 16 * ((lane.toNat + 7 * attempts) % 31 + 1) := if_neg ha

theorem backoff_le (lane : Lane) (attempts : Nat) : backoff lane attempts ≤ 496 := by
  unfold backoff
  split <;> omega

theorem le_backoff {attempts : Nat} (ha : attempts ≠ 0) (lane : Lane) : 16 ≤ backoff lane attempts := by
  rw [backoff_of_ne_zero ha]
  omega

theorem one_le_toNat_of_lane_ne_zero {l : Lane} (hl : l ≠ 0) : 1 ≤ l.toNat :=
  Nat.one_le_iff_ne_zero.2 (mt (@BitVec.eq_of_toNat_eq _ l 0) hl)

/-- The key fact of R142: the 31 lanes other than 0 are told apart by their residues modulo 31. -/
theorem lane_eq_of_modEq {l m : Lane} (hl : l ≠ 0) (hm : m ≠ 0) (h : l.toNat ≡ m.toNat [MOD 31]) : l = m := by
  have hl1 := one_le_toNat_of_lane_ne_zero hl
  have hm1 := one_le_toNat_of_lane_ne_zero hm
  have hl31 : l.toNat < 32 := l.isLt
  have hm31 : m.toNat < 32 := m.isLt
  unfold Nat.ModEq at h
  exact BitVec.eq_of_toNat_eq (by omega)

theorem lane_eq_of_backoff_eq {l m : Lane} {attempts : Nat} (hl : l ≠ 0) (hm : m ≠ 0) (ha : attempts ≠ 0)
    (h : backoff l attempts = backoff m attempts) : l = m := by
  rw [backoff_of_ne_zero ha, backoff_of_ne_zero ha] at h
  have hres : l.toNat + 7 * attempts ≡ m.toNat + 7 * attempts [MOD 31] := by
    unfold Nat.ModEq
    omega
  exact lane_eq_of_modEq hl hm (Nat.ModEq.add_right_cancel' _ hres)

/-- Half of base and backoff is `9 * lane` modulo 31 up to a term that the attempt count fixes, and 9 is invertible
modulo 31. -/
theorem lane_eq_of_base_add_backoff_eq {l m : Lane} {attempts : Nat} (hl : l ≠ 0) (hm : m ≠ 0)
    (h : 2 * l.toNat + backoff l attempts = 2 * m.toNat + backoff m attempts) : l = m := by
  by_cases ha : attempts = 0
  · subst ha
    rw [backoff_zero, backoff_zero] at h
    exact BitVec.eq_of_toNat_eq (by omega)
  · rw [backoff_of_ne_zero ha, backoff_of_ne_zero ha] at h
    have hnine : 9 * l.toNat ≡ 9 * m.toNat [MOD 31] := by
      unfold Nat.ModEq
      omega
    exact lane_eq_of_modEq hl hm (hnine.cancel_left_of_coprime (by decide))

theorem lane_eq_of_deferral_eq {l m : Lane} {yield : Bool} {attempts : Nat} (hl : l ≠ 0) (hm : m ≠ 0)
    (h : deferral l yield attempts = deferral m yield attempts) : l = m := by
  rw [deferral_eq, deferral_eq] at h
  have hsum : 2 * l.toNat + backoff l attempts = 2 * m.toNat + backoff m attempts := by omega
  exact lane_eq_of_base_add_backoff_eq hl hm hsum

theorem deferral_bounds {l : Lane} (hl : l ≠ 0) (yield : Bool) (attempts : Nat) :
    26 ≤ deferral l yield attempts ∧ deferral l yield attempts ≤ 646 := by
  have hlow := one_le_toNat_of_lane_ne_zero hl
  have hhigh : l.toNat < 32 := l.isLt
  have hback := backoff_le l attempts
  rw [deferral_eq]
  cases yield <;> simp only [Bool.false_eq_true, if_false, if_true] <;> omega

end Sys2Proof.Machine

open Sys2Proof Sys2Proof.Machine

/-- Settles O33: the formula, the separation of the lanes by backoff and by deferral, and the bounds. -/
theorem deferralSeparatesLanes : Obligations.DeferralSeparatesLanes := by
  unfold Obligations.DeferralSeparatesLanes
  exact ⟨deferral_eq,
    fun l _ _ a hl hm => ⟨fun ha => ⟨le_backoff ha l, backoff_le l a, lane_eq_of_backoff_eq hl hm ha⟩,
      lane_eq_of_deferral_eq hl hm⟩,
    fun _ y a hl => deferral_bounds hl y a⟩
end

section
/-! Proofs about an occurrence: which action it brings, and what each row of the table of effects does to the sets and to
the detail records. -/

namespace Sys2Proof.Machine

/-! ## The action (R163, R166) -/

theorem Condition.cls_eq_halt_iff {c : Condition} : c.cls = .halt ↔ c.rank ≤ 2 := by cases c <;> decide

theorem Condition.cls_eq_routine_iff {c : Condition} : c.cls = .routine ↔ 6 ≤ c.rank := by cases c <;> decide

/-- The action of an occurrence of a condition, as the state has its mask entry, station state and arrival queue. -/
def State.action (s : State) (c : Condition) : Action :=
  occurrenceAction c (has s.cond.mask c) s.station.state (!s.arrival.items.isEmpty)

theorem State.action_eq_record_iff {s : State} {c : Condition} :
    s.action c = .record ↔ ¬ c.rank ≤ 2 ∧ has s.cond.mask c = false := by
  rw [action, occurrenceAction, ← Condition.cls_eq_halt_iff]
  cases c.cls with
  | halt => simp
  | urgent => cases has s.cond.mask c <;> simp
  | routine =>
    cases has s.cond.mask c with
    | false => simp
    | true => simp only [if_true]; split <;> simp

theorem State.action_eq_defer_iff {s : State} {c : Condition} :
    s.action c = .defer ↔
      6 ≤ c.rank ∧ has s.cond.mask c = true ∧ s.station.state = .run ∧ s.arrival.items ≠ [] := by
  rw [action, occurrenceAction, ← Condition.cls_eq_routine_iff]
  cases c.cls with
  | halt => simp
  | urgent => cases has s.cond.mask c <;> simp
  | routine => cases has s.cond.mask c <;> simp

theorem occur_strapFault {s : State} (hs : s.station.state = .strapFault) (c : Condition) (d : Detail) :
    occur c d s = s := if_pos (beq_iff_eq.2 hs)

theorem occur_taken {s : State} (hs : s.station.state ≠ .strapFault) (c : Condition) (d : Detail) :
    occur c d s = s.setCond (s.cond.occurrence c d (s.action c)) := if_neg (mt beq_iff_eq.1 hs)

/-! ## The detail records (R165, R168) -/

section
variable (u : ConditionUnit) (c : Condition) (d : Detail) (a : Action)

theorem detail_latch_self (hlen : u.details.length = 16) :
    (u.latch c d).detail c = some { d with condition := c, again := false } := by
  have hindex : c.index < u.details.length := hlen ▸ c.index_lt
  simp [ConditionUnit.detail, ConditionUnit.latch, hindex]

theorem detail_setAgain_self : (u.setAgain c).detail c = (u.detail c).map fun x => { x with again := true } := by
  simp only [ConditionUnit.detail, ConditionUnit.setAgain, List.getD_eq_getElem?_getD, List.getElem?_modify_eq]
  cases u.details[c.index]? <;> rfl

variable {u c}

theorem detail_latch_ne {x : Condition} (hx : x ≠ c) : (u.latch c d).detail x = u.detail x := by
  have hindex : c.index ≠ x.index := fun h => hx (Condition.index_inj.1 h).symm
  simp [ConditionUnit.detail, ConditionUnit.latch, hindex]

theorem detail_setAgain_ne {x : Condition} (hx : x ≠ c) : (u.setAgain c).detail x = u.detail x := by
  have hindex : c.index ≠ x.index := fun h => hx (Condition.index_inj.1 h).symm
  simp [ConditionUnit.detail, ConditionUnit.setAgain, hindex]

/-! ## The rows of the table of effects (R168) -/

/-- The condition found deferred or pending: it still waits for its ACK ATTENTION. -/
def ConditionUnit.waits (u : ConditionUnit) (c : Condition) : Prop := has u.deferred c = true ∨ has u.pending c = true

theorem waits_iff : (has u.deferred c || has u.pending c) = true ↔ u.waits c := Bool.or_eq_true_iff

theorem takeAction_of_waits (h : u.waits c) : u.takeAction c d a = u.setAgain c :=
  if_pos (waits_iff.2 h)

variable {a}

theorem takeAction_makePending (h : ¬ u.waits c) (hrecord : a ≠ .record)
    (hdefer : a = .defer → has u.inService c = true) : u.takeAction c d a = u.makePending c d := by
  unfold ConditionUnit.takeAction
  rw [if_neg (mt waits_iff.1 h)]
  cases a with
  | record => exact absurd rfl hrecord
  | defer => exact if_pos (hdefer rfl)
  | notify | halt => exact ite_self _

theorem takeAction_makeDeferred (h : ¬ u.waits c) (hserved : has u.inService c = false) :
    u.takeAction c d .defer = u.makeDeferred c d := by
  rw [ConditionUnit.takeAction, if_neg (mt waits_iff.1 h), hserved]
  rfl

theorem takeAction_record (h : ¬ u.waits c) :
    u.takeAction c d .record =
      if has u.recorded c = true ∨ has u.inService c = true then u.setAgain c else u.latch c d := by
  rw [ConditionUnit.takeAction, if_neg (mt waits_iff.1 h)]
  cases has u.inService c <;> simp

variable (u c a)

/-- Everything an occurrence can do beside setting the recorded flag. -/
theorem takeAction_cases :
    u.takeAction c d a = u.setAgain c ∨ u.takeAction c d a = u.latch c d ∨ u.takeAction c d a = u.makePending c d ∨
      u.takeAction c d a = u.makeDeferred c d := by
  by_cases hwaits : u.waits c
  · exact .inl (takeAction_of_waits d a hwaits)
  by_cases hrecord : a = .record
  · rw [hrecord, takeAction_record d hwaits]
    split
    · exact .inl rfl
    · exact .inr (.inl rfl)
  by_cases hdefer : a = .defer → has u.inService c = true
  · exact .inr (.inr (.inl (takeAction_makePending d hwaits hrecord hdefer)))
  · obtain ⟨rfl, hserved⟩ := Classical.not_imp.1 hdefer
    exact .inr (.inr (.inr (takeAction_makeDeferred d hwaits (Bool.eq_false_iff.2 hserved))))

/-- The pins wait for the refresh that follows the occurrence. -/
theorem occurrence_pins : (u.occurrence c d a).attn = u.attn ∧ (u.occurrence c d a).stop = u.stop := by
  unfold ConditionUnit.occurrence
  rcases takeAction_cases u c d a with h | h | h | h <;> rw [h] <;> exact ⟨rfl, rfl⟩

variable {c}

theorem detail_occurrence_ne {x : Condition} (hx : x ≠ c) : (u.occurrence c d a).detail x = u.detail x := by
  change (u.takeAction c d a).detail x = u.detail x
  rcases takeAction_cases u c d a with h | h | h | h <;> rw [h]
  · exact detail_setAgain_ne hx
  · exact detail_latch_ne d hx
  · exact detail_latch_ne d hx
  · exact detail_latch_ne d hx

end

end Sys2Proof.Machine

open Sys2Proof Sys2Proof.Machine

/-- Settles O20: the two named actions of the statement are read off the model's action, and each of its four clauses is
one row of the table of effects. -/
theorem occurrenceFollowsTables : Obligations.OccurrenceFollowsTables := by
  unfold Obligations.OccurrenceFollowsTables
  refine fun s c d => ⟨fun hs => occur_strapFault hs c d, fun hs hlen => ?_⟩
  intro u waits enabled defers notifies fresh more
  have hdefers : s.action c = .defer ↔ defers := State.action_eq_defer_iff
  have hrecord : s.action c = .record ↔ ¬ c.rank ≤ 2 ∧ ¬ enabled :=
    State.action_eq_record_iff.trans (and_congr_right fun _ => Bool.eq_false_iff)
  obtain ⟨hattn, hstop⟩ := occurrence_pins u c d (s.action c)
  refine ⟨u.occurrence c d (s.action c), occur_taken hs c d, occurrence_recorded u c d _, occurrence_inService u c d _,
    occurrence_mask u c d _, occurrence_routing u c d _, occurrence_autoEnd u c d _, hattn, hstop,
    fun x hx => detail_occurrence_ne u d _ hx, fun hw => ?_, fun hw hact => ?_, fun hw hdef hserved => ?_,
    fun hw hnot hndef => ?_⟩ <;> unfold ConditionUnit.occurrence
  · rw [takeAction_of_waits d _ hw]
    exact ⟨rfl, rfl, detail_setAgain_self u c⟩
  · have hpending := takeAction_makePending (a := s.action c) d hw (fun ha => ?_) (fun ha => ?_)
    rw [hpending]
    · exact ⟨rfl, rfl, detail_latch_self _ c d hlen⟩
    · obtain ⟨hrank, hmasked⟩ := hrecord.1 ha
      rcases hact with (hhalt | ⟨hen, -⟩) | ⟨⟨-, hen, -⟩, -⟩
      exacts [hrank hhalt, hmasked hen, hmasked hen]
    · have hdef := hdefers.1 ha
      rcases hact with (hhalt | ⟨-, hndef⟩) | ⟨-, hserved⟩
      · obtain ⟨hroutine, -⟩ := hdef
        omega
      · exact absurd hdef hndef
      · exact hserved
  · rw [hdefers.2 hdef, takeAction_makeDeferred d hw hserved]
    exact ⟨rfl, rfl, detail_latch_self _ c d hlen⟩
  · have hact : s.action c = .record :=
      hrecord.2 ⟨fun hhalt => hnot (.inl hhalt), fun hen => hnot (.inr ⟨hen, hndef⟩)⟩
    rw [hact, takeAction_record d hw]
    split
    · exact ⟨rfl, rfl, detail_setAgain_self u c⟩
    · exact ⟨rfl, rfl, detail_latch_self u c d hlen⟩
end

section
/-! Proofs about READ CONDITION: the code that names a condition, and the reply that carries a detail record. -/

namespace Sys2Proof.Machine

variable {s : State} {n : Byte} {rest : List Request}

/-! ## Condition codes (R163) -/

theorem conditionOfCode_rank (c : Condition) : conditionOfCode c.rank = some c := by cases c <;> rfl

theorem Condition.rank_pos (c : Condition) : 1 ≤ c.rank := Nat.le_add_left 1 c.index

theorem Condition.rank_le (c : Condition) : c.rank ≤ 16 := c.index_lt

/-! ## A reply with a detail record (11.5.3) -/

/-- The title field and the value field of a reply show what the detail record holds; where it holds none, the title
field has its 15 bytes still, and their content is open, as that of the value field is (log 10). -/
def Detail.ShownAs (d : Detail) (title : List Byte) (value : Byte) : Prop :=
  (∀ k, d.title = some k → title = k.chars ++ wordBytes k.part.toNat) ∧ (d.title = none → title.length = 15) ∧
    ∀ v, d.value = some v → value = byteOf v

/-- What follows the result code of a reply with a detail record, its two open fields given. -/
def Detail.replyBytes (d : Detail) (flags : Byte) (title : List Byte) (value : Byte) : List Byte :=
  [byteOf d.condition.rank, flags, d.source.code, d.source.number, flagByte d.title.isSome] ++ title ++
    [flagByte d.value.isSome, value, watchEventCode d.event, flagByte d.again]

theorem exists_detailContent_eq (free : Nat → Byte) (flags : Byte) (d : Detail) :
    ∃ title value, d.ShownAs title value ∧ detailContent free flags d = d.replyBytes flags title value := by
  refine ⟨_, _, ⟨?_, ?_, ?_⟩, rfl⟩
  · intro k hk
    rw [hk]
    rfl
  · intro hnone
    rw [hnone, List.length_map, List.length_range]
  · intro v hv
    rw [hv]

theorem exists_replyDetail_eq {r : Request} (h : s.port.buffer = r :: rest) (flags : Byte) (d : Detail) :
    ∃ title value draws, d.ShownAs title value ∧
      replyDetail r flags d s =
        (s.setDraws draws).replied rest ([r.kind, ResultCode.done.code] ++ d.replyBytes flags title value) := by
  obtain ⟨title, value, hshown, hcontent⟩ := exists_detailContent_eq (fun i => Config.openByte (s.draws + i)) flags d
  refine ⟨title, value, s.draws + 16, hshown, ?_⟩
  rw [replyDetail, hcontent]
  exact answerRequest_eq h

/-! ## READ CONDITION (R177) -/

/-- A request for the detail record of the condition with code `n` (11.5.2). -/
def conditionRequest (n : Byte) : Request := { kind := 12, length := 1, payload := [n] }

theorem exec_readCondition (s : State) : exec .readCondition s = .next (readCondition s) := rfl

theorem conditionRequest_formOk_iff : (conditionRequest n).formOk = true ↔ 1 ≤ n.toNat ∧ n.toNat ≤ 16 := by
  have hform : (conditionRequest n).formOk = (decide (1 ≤ n.toNat) && decide (n.toNat ≤ 16)) := rfl
  simp [hform]

theorem conditionRequest_formOk_eq_false (hn : n = 0 ∨ 16 < n.toNat) : (conditionRequest n).formOk = false := by
  rw [Bool.eq_false_iff, Ne, conditionRequest_formOk_iff]
  rcases hn with rfl | hlarge
  · decide
  · omega

section
variable {c : Condition} (h : Serving s (conditionRequest n) rest) (hn : n.toNat = c.rank)
include hn

theorem conditionRequest_formOk_of_rank : (conditionRequest n).formOk = true :=
  conditionRequest_formOk_iff.2 (hn ▸ ⟨c.rank_pos, c.rank_le⟩)

theorem conditionOfCode_conditionRequest : conditionOfCode (natAt (conditionRequest n).payload 0) = some c :=
  (congrArg conditionOfCode hn).trans (conditionOfCode_rank c)

include h

theorem readCondition_empty (hs : s.station.state ≠ .strapFault) (hd : s.cond.detail c = none) :
    readCondition s = s.replied rest [12, ResultCode.none.code] := by
  have hempty : s.cond.details.getD c.index none = none := hd
  refine (serve_taken h rfl (conditionRequest_formOk_of_rank hn) (servedState_iff.2 hs)).trans ?_
  simp only [conditionOfCode_conditionRequest hn, hempty]
  exact answerRequest_eq (buffer_of_serving h)

theorem readCondition_filled {d : Detail} (hs : s.station.state ≠ .strapFault) (hd : s.cond.detail c = some d) :
    readCondition s = replyDetail (conditionRequest n) (flagsByte s.cond c) d s := by
  have hfilled : s.cond.details.getD c.index none = some d := hd
  refine (serve_taken h rfl (conditionRequest_formOk_of_rank hn) (servedState_iff.2 hs)).trans ?_
  simp only [conditionOfCode_conditionRequest hn, hfilled]

end

end Sys2Proof.Machine

open Sys2Proof Sys2Proof.Machine

/-- Settles O10: a code outside 1 to 16 names no condition; for the others the detail record is empty or is shown. -/
theorem readConditionReplies : Obligations.ReadConditionReplies := by
  unfold Obligations.ReadConditionReplies
  refine fun s rest n h => ⟨fun hn => ?_, fun c hn => ⟨fun hs => ?_, fun hs hd => ?_, fun d hs hd => ?_⟩⟩
  · exact congrArg Host.Outcome.next (serve_refusedForm_replied h rfl (conditionRequest_formOk_eq_false hn))
  · exact congrArg Host.Outcome.next (serve_strapFault_replied h rfl (conditionRequest_formOk_of_rank hn) hs)
  · exact congrArg Host.Outcome.next (readCondition_empty h hn hs hd)
  · obtain ⟨title, value, draws, ⟨hkey, hnone, hvalue⟩, hreply⟩ :=
      exists_replyDetail_eq (buffer_of_serving h) (flagsByte s.cond c) d
    refine ⟨title, value, draws, hkey, hnone, hvalue, ?_⟩
    rw [exec_readCondition]
    exact congrArg Host.Outcome.next ((readCondition_filled h hn hs hd).trans hreply)
end

section
/-! Proofs about ACK ATTENTION and END ATTENTION: which condition each takes, and what it leaves of the sets. -/

namespace Sys2Proof.Machine

variable {s : State} {rest : List Request} {c : Condition}

/-! ## The highest-ranked condition of a set (R163) -/

theorem Condition.eq_of_rank_eq {c d : Condition} (h : c.rank = d.rank) : c = d :=
  Condition.index_inj.1 (Nat.succ.inj h)

theorem highest_zero : highest 0 = none := List.find?_eq_none.2 fun c _ => by rw [has_zero]; exact Bool.false_ne_true

theorem highest_eq_some {cs : CondSet} (hc : has cs c = true) (hleast : ∀ x, has cs x = true → c.rank ≤ x.rank) :
    highest cs = some c := by
  cases hh : highest cs with
  | none => exact absurd hc (List.find?_eq_none.1 hh c c.mem_all)
  | some x => rw [Condition.eq_of_rank_eq (Nat.le_antisymm (highest_least hh hc) (hleast x (highest_has hh)))]

/-! ## ACK ATTENTION (R172) -/

/-- A request to take the highest-ranked pending condition, which names nothing (11.5.2). -/
def ackRequest : Request := { kind := 13, length := 0, payload := [] }

/-- The flags byte of the reply, the free choice made (log 12). -/
def State.ackFlags (s : State) (c : Condition) : Byte :=
  flagsByte (if Config.ackShowsFlagsAfter s.draws then s.cond.acknowledge c else s.cond) c

theorem exec_ackAttention (s : State) : exec .ackAttention s = .next (ackAttention s) := rfl

theorem has_inService_acknowledge (u : ConditionUnit) (c : Condition) :
    has (u.acknowledge c).inService c = (has u.inService c || !u.autoEnd) := by
  simp only [ConditionUnit.acknowledge]
  cases u.autoEnd <;> simp

theorem flagsByte_acknowledge (u : ConditionUnit) (c : Condition) :
    flagsByte (u.acknowledge c) c =
      byteOf ((has u.recorded c).toNat + 2 * (has u.deferred c).toNat + 8 * (has u.inService c || !u.autoEnd).toNat) := by
  have hpending : has (u.acknowledge c).pending c = false := by simp [ConditionUnit.acknowledge]
  rw [flagsByte, hpending, has_inService_acknowledge]
  rfl

/-- The byte shows the flags as the request finds them or as it leaves them. -/
theorem ackFlags_cases (hc : has s.cond.pending c = true) :
    s.ackFlags c = byteOf ((has s.cond.recorded c).toNat + 2 * (has s.cond.deferred c).toNat + 4 +
        8 * (has s.cond.inService c).toNat) ∨
      s.ackFlags c = byteOf ((has s.cond.recorded c).toNat + 2 * (has s.cond.deferred c).toNat +
        8 * (has s.cond.inService c || !s.cond.autoEnd).toNat) := by
  unfold State.ackFlags
  split
  · exact .inr (flagsByte_acknowledge s.cond c)
  · rw [flagsByte, hc]
    exact .inl rfl

section
variable (h : Serving s ackRequest rest) (hs : s.station.state ≠ .strapFault)
include h hs

theorem ackAttention_none (hp : s.cond.pending = 0) :
    ackAttention s = s.replied rest [13, ResultCode.none.code] := by
  refine (serve_taken h rfl rfl (servedState_iff.2 hs)).trans ?_
  simp only [hp, highest_zero]
  exact answerRequest_eq (buffer_of_serving h)

theorem ackAttention_taken {d : Detail} (hp : highest s.cond.pending = some c) (hd : s.cond.detail c = some d) :
    ackAttention s =
      refresh (replyDetail ackRequest (s.ackFlags c) d (s.setCond (s.cond.acknowledge c))) := by
  have hfilled : s.cond.details.getD c.index none = some d := hd
  refine (serve_taken h rfl rfl (servedState_iff.2 hs)).trans ?_
  simp only [hp, hfilled, Option.getD_some, State.ackFlags]

end

/-! ## END ATTENTION (R173) -/

/-- A request to end the service of the condition with code `n`, or with code 0 of the highest-ranked one in service
(11.5.2). -/
def endRequest (n : Byte) : Request := { kind := 14, length := 1, payload := [n] }

theorem exec_endAttention (s : State) : exec .endAttention s = .next (endAttention s) := rfl

theorem endRequest_formOk (n : Byte) : (endRequest n).formOk = decide (n.toNat ≤ 16) := rfl

theorem endTarget_zero (u : ConditionUnit) : endTarget u 0 = highest u.inService := rfl

theorem endTarget_rank (u : ConditionUnit) (c : Condition) :
    endTarget u c.rank = if has u.inService c = true then some c else none := by
  rw [endTarget, if_neg (Nat.ne_of_gt c.rank_pos), conditionOfCode_rank]
  exact Option.filter_some

section
variable {n : Byte} (h : Serving s (endRequest n) rest) (hn : n.toNat ≤ 16) (hs : s.station.state ≠ .strapFault)
include h hn hs

theorem endAttention_ends (ht : endTarget s.cond n.toNat = some c) :
    endAttention s =
      refresh ((s.setCond { s.cond with inService := takeFrom s.cond.inService c }).replied rest
        [14, ResultCode.done.code, byteOf c.rank]) := by
  have htarget : endTarget s.cond (natAt (endRequest n).payload 0) = some c := ht
  have hbuffer (x : ConditionUnit) : (s.setCond x).port.buffer = endRequest n :: rest := buffer_of_serving h
  refine (serve_taken h rfl ((endRequest_formOk n).trans (decide_eq_true hn)) (servedState_iff.2 hs)).trans ?_
  simp only [htarget]
  exact congrArg refresh (answerRequest_eq (hbuffer _))

theorem endAttention_none (ht : endTarget s.cond n.toNat = none) :
    endAttention s = s.replied rest [14, ResultCode.none.code] := by
  have htarget : endTarget s.cond (natAt (endRequest n).payload 0) = none := ht
  refine (serve_taken h rfl ((endRequest_formOk n).trans (decide_eq_true hn)) (servedState_iff.2 hs)).trans ?_
  simp only [htarget]
  exact answerRequest_eq (buffer_of_serving h)

end

end Sys2Proof.Machine

open Sys2Proof Sys2Proof.Machine

/-- Settles O11: the condition of the statement is the one the model takes, being in the set and of least rank. -/
theorem ackAttentionTakesHighest : Obligations.AckAttentionTakesHighest := by
  unfold Obligations.AckAttentionTakesHighest
  refine fun s rest h => ⟨fun hs => ?_, fun hs hp => ?_, fun c d hs hc hleast hd => ?_⟩
  · exact congrArg Host.Outcome.next (serve_strapFault_replied h rfl rfl hs)
  · exact congrArg Host.Outcome.next (ackAttention_none h hs hp)
  · have hbuffer : (s.setCond (s.cond.acknowledge c)).port.buffer = ackRequest :: rest := buffer_of_serving h
    obtain ⟨title, value, draws, ⟨hkey, hnone, hvalue⟩, hreply⟩ := exists_replyDetail_eq hbuffer (s.ackFlags c) d
    refine ⟨s.ackFlags c, title, value, draws, ackFlags_cases hc, hkey, hnone, hvalue, ?_⟩
    rw [exec_ackAttention, ackAttention_taken h hs (highest_eq_some hc hleast) hd, hreply]
    rfl

/-- Settles O12: a code above 16 has the wrong form, and any other decides, with the conditions in service, what is
ended. -/
theorem endAttentionEndsService : Obligations.EndAttentionEndsService := by
  unfold Obligations.EndAttentionEndsService
  refine fun s rest n h => ⟨fun hn => ?_, fun hn hs => ?_, fun hs =>
    ⟨fun c hc hcode => ?_, fun c hcode hc => ?_, fun hzero hempty => ?_⟩⟩
  · have hform := (endRequest_formOk n).trans (decide_eq_false (Nat.not_le.2 hn))
    exact congrArg Host.Outcome.next (serve_refusedForm_replied h rfl hform)
  · have hform := (endRequest_formOk n).trans (decide_eq_true hn)
    exact congrArg Host.Outcome.next (serve_strapFault_replied h rfl hform hs)
  · have htarget : n.toNat ≤ 16 ∧ endTarget s.cond n.toNat = some c := by
      rcases hcode with hrank | ⟨rfl, hleast⟩
      · rw [hrank, endTarget_rank, if_pos hc]
        exact ⟨c.rank_le, rfl⟩
      · exact ⟨Nat.zero_le 16, highest_eq_some hc hleast⟩
    exact congrArg Host.Outcome.next (endAttention_ends h htarget.1 hs htarget.2)
  · have hnone : endTarget s.cond n.toNat = none := by
      rw [hcode, endTarget_rank, hc]
      rfl
    exact congrArg Host.Outcome.next (endAttention_none h (hcode ▸ c.rank_le) hs hnone)
  · subst hzero
    have hnone : endTarget s.cond 0 = none := by rw [endTarget_zero, hempty, highest_zero]
    exact congrArg Host.Outcome.next (endAttention_none h (Nat.zero_le 16) hs hnone)
end

section
/-! Proofs about CLEAR CONDITIONS: the two flags it clears, and the occurrence that finds a condition without flags. -/

namespace Sys2Proof.Machine

variable {s : State}

/-! ## A fresh latch (R168) -/

theorem has_andNot (cs m : CondSet) (c : Condition) : has (cs &&& ~~~m) c = (has cs c && !has m c) := by
  simp [has, c.index_lt]

/-- An occurrence that finds none of the four flags latches a fresh detail, whatever its action. -/
theorem detail_occurrence_fresh {u : ConditionUnit} {c : Condition} (d : Detail) (a : Action)
    (hlen : u.details.length = 16) (hrecorded : has u.recorded c = false) (hdeferred : has u.deferred c = false)
    (hpending : has u.pending c = false) (hserved : has u.inService c = false) :
    (u.occurrence c d a).detail c = some { d with condition := c, again := false } := by
  have hwaits : ¬ u.waits c := by simp [ConditionUnit.waits, hdeferred, hpending]
  change (u.takeAction c d a).detail c = _
  cases a with
  | record =>
    rw [takeAction_record d hwaits, if_neg (by simp [hrecorded, hserved])]
    exact detail_latch_self u c d hlen
  | defer =>
    rw [takeAction_makeDeferred d hwaits hserved]
    exact detail_latch_self _ c d hlen
  | notify | halt =>
    rw [takeAction_makePending d hwaits Action.noConfusion Action.noConfusion]
    exact detail_latch_self _ c d hlen

/-! ## CLEAR CONDITIONS (R176) -/

/-- A request to clear the conditions of the set in bytes `a` and `b` (11.5.2). -/
def clearRequest (a b : Byte) : Request := { kind := 15, length := 2, payload := [a, b] }

/-- The condition unit with the recorded and deferred flags of a set cleared. -/
def ConditionUnit.clearFlags (u : ConditionUnit) (m : CondSet) : ConditionUnit :=
  { u with recorded := u.recorded &&& ~~~m, deferred := u.deferred &&& ~~~m }

theorem exec_clearConditions (s : State) : exec .clearConditions s = .next (clearConditions s) := rfl

theorem loadStates_eq_false_iff {st : StationState} : loadStates st = false ↔ st = .halted ∨ st = .strapFault := by
  cases st <;> decide

section
variable {a b : Byte} {rest : List Request} (h : Serving s (clearRequest a b) rest)
include h

theorem clearConditions_refused (hs : s.station.state = .halted ∨ s.station.state = .strapFault) :
    clearConditions s = s.replied rest [15, ResultCode.refusedState.code] :=
  (serve_refusedState h rfl rfl (loadStates_eq_false_iff.2 hs)).trans (answerRequest_eq (buffer_of_serving h))

theorem clearConditions_taken (hs : ¬ (s.station.state = .halted ∨ s.station.state = .strapFault)) :
    clearConditions s = (s.setCond (s.cond.clearFlags (b ++ a))).replied rest [15, ResultCode.done.code] :=
  have hbuffer : (s.setCond (s.cond.clearFlags (b ++ a))).port.buffer = clearRequest a b :: rest := buffer_of_serving h
  have hstate := Bool.eq_true_of_not_eq_false (mt loadStates_eq_false_iff.1 hs)
  (serve_taken h rfl rfl hstate).trans (answerRequest_eq hbuffer)

end

end Sys2Proof.Machine

open Sys2Proof Sys2Proof.Machine

/-- Settles O13: the refusal, the flags cleared, and the next occurrence, which finds none of the four. -/
theorem clearConditionsClears : Obligations.ClearConditionsClears := by
  unfold Obligations.ClearConditionsClears
  refine fun s rest a b h => ⟨fun hs => ?_, fun hhalted hstrap => ?_⟩
  · exact congrArg Host.Outcome.next (clearConditions_refused h hs)
  · intro cleared
    refine ⟨congrArg Host.Outcome.next (clearConditions_taken h (not_or_intro hhalted hstrap)),
      fun c d hc hpending hserved hlen => ?_⟩
    have hgone (cs : CondSet) : has (cs &&& ~~~(b ++ a)) c = false := by
      rw [has_andNot, hc, Bool.not_true, Bool.and_false]
    have hrecorded : has cleared.cond.recorded c = false := hgone _
    have hdeferred : has cleared.cond.deferred c = false := hgone _
    refine ⟨hrecorded, hdeferred, ?_⟩
    rw [occur_taken (s := cleared) hstrap]
    exact detail_occurrence_fresh d _ hlen hrecorded hdeferred hpending hserved
end

section
/-! Proofs about the form of a request: each row's length and field checks against the list of R191, and the answer every
row's command gives a request of wrong form. -/

namespace Sys2Proof.Machine

variable {s : State} {r : Request}

/-! ## The checks of each row (R191) -/

/-- A row's checks as R191 lists them: a length of the row, and a case `bad` of wrong fields. -/
theorem formOk_iff_of_fields {row : RequestRow} {n : Nat} {bad : Prop} (hrow : r.row = row)
    (hlen : row.length = some n) (hfields : r.fieldsOk = true ↔ ¬ bad) :
    r.formOk = true ↔ ¬ (r.length.toNat ≠ n ∨ bad) := by
  have hlength : (r.row.length == some r.length.toNat) = true ↔ r.length.toNat = n := by
    rw [hrow, hlen, beq_iff_eq, Option.some_inj, eq_comm]
  rw [Request.formOk, Bool.and_eq_true, hlength, hfields, not_or, not_not]

/-- The rows whose requests R191 judges by their length alone. -/
def RequestRow.lengthOnly : RequestRow → Bool
  | .present | .commence | .pause | .resume | .clearWork | .readEntry | .readItem | .readStatus | .ackAttention
  | .clearConditions => true
  | _ => false

theorem fieldsOk_of_lengthOnly (h : r.row.lengthOnly = true) : r.fieldsOk = true := by
  unfold RequestRow.lengthOnly at h
  unfold Request.fieldsOk
  split at h
  case h_11 => cases h
  all_goals simp only [*]

theorem formOk_iff_of_lengthOnly {row : RequestRow} {n : Nat} (hrow : r.row = row) (hlen : row.length = some n)
    (honly : row.lengthOnly = true) : r.formOk = true ↔ ¬ r.length.toNat ≠ n := by
  have hfields : r.fieldsOk = true ↔ ¬ False := by simp [fieldsOk_of_lengthOnly (hrow ▸ honly)]
  simpa only [or_false] using formOk_iff_of_fields hrow hlen hfields

theorem formOk_of_unknown (hrow : r.row = .unknown) : r.formOk = false := by
  rw [Request.formOk, hrow]
  rfl

/-- The CONFIGURE rows whose selector has no index, so that the index byte has to be 0 (R191). -/
def RequestRow.noIndex : RequestRow → Bool
  | .configureTimes | .configureMask | .configureStopRouting | .configureAutomaticEnd => true
  | _ => false

theorem fieldsOk_iff_of_noIndex (h : r.row.noIndex = true) : r.fieldsOk = true ↔ ¬ natAt r.payload 1 ≠ 0 := by
  unfold RequestRow.noIndex at h
  unfold Request.fieldsOk
  split at h
  case h_5 => cases h
  all_goals simp only [*, beq_iff_eq, not_not, ne_eq]

theorem fieldsOk_iff_of_configureClass (hrow : r.row = .configureClass) :
    r.fieldsOk = true ↔ ¬ 3 < natAt r.payload 1 := by
  simp [Request.fieldsOk, hrow]

theorem fieldsOk_iff_of_configureRange (hrow : r.row = .configureRange) :
    r.fieldsOk = true ↔ ¬ 7 < natAt r.payload 1 := by
  simp [Request.fieldsOk, hrow]

theorem fieldsOk_iff_of_readRoster (hrow : r.row = .readRoster) :
    r.fieldsOk = true ↔ ¬ (natAt r.payload 0 = 0 ∨ 31 < natAt r.payload 0) := by
  simp [Request.fieldsOk, hrow, Nat.one_le_iff_ne_zero]

theorem fieldsOk_iff_of_readCondition (hrow : r.row = .readCondition) :
    r.fieldsOk = true ↔ ¬ (natAt r.payload 0 = 0 ∨ 16 < natAt r.payload 0) := by
  simp [Request.fieldsOk, hrow, Nat.one_le_iff_ne_zero]

theorem fieldsOk_iff_of_endAttention (hrow : r.row = .endAttention) :
    r.fieldsOk = true ↔ ¬ 16 < natAt r.payload 0 := by
  simp [Request.fieldsOk, hrow]

theorem all_isDigitChar_iff {chars : List Byte} :
    chars.all isDigitChar = true ↔ ¬ ∃ c ∈ chars, c.toNat < 48 ∨ 57 < c.toNat := by
  simp [List.all_eq_true, isDigitChar_iff]

theorem fieldsOk_iff_of_loadWatchEntry (hrow : r.row = .loadWatchEntry) :
    r.fieldsOk = true ↔ ¬ (15 < natAt r.payload 0 ∨
      (∃ c ∈ (r.payload.drop 2).take 13, c.toNat < 48 ∨ 57 < c.toNat) ∨
      (9999 < (wordAt r.payload 15).toNat ∧ (wordAt r.payload 15).toNat ≠ 65535)) := by
  have hany : wordAt r.payload 15 = 65535 ↔ (wordAt r.payload 15).toNat = 65535 := BitVec.toNat_inj.symm
  simp only [Request.fieldsOk, hrow, Bool.and_eq_true, Bool.or_eq_true, decide_eq_true_eq, all_isDigitChar_iff,
    beq_iff_eq, hany, not_or, not_and_or, not_lt, not_not, and_assoc, ne_eq]

/-! ## The list of R191 -/

theorem row_of_unknownKind (hk : r.kind.toNat = 0 ∨ 15 < r.kind.toNat) : r.row = .unknown := by
  unfold Request.row
  split
  case h_16 => rfl
  all_goals omega

/-- R191 for a CONFIGURE: the selector decides the length, and whether an index is bounded or has to be 0. Case `h_k` is
the row of selector `k`; `h_7` is that of an unknown selector. -/
theorem formOk_iff_of_configure (hk : r.kind.toNat = 2) : r.formOk = true ↔ ¬ r.wrongForm := by
  have hrow : r.row = configureRow r.payload := by simp only [Request.row, hk]
  simp only [Request.wrongForm, hk]
  cases hp : r.payload with
  | nil =>
    have hunknown : r.row = .unknown := by rw [hrow, hp]; rfl
    simp only [formOk_of_unknown hunknown, Bool.false_eq_true, not_true]
  | cons sel fields =>
    have hsel : r.row = configureRow (sel :: fields) := hp ▸ hrow
    simp only [configureRow] at hsel
    split at hsel
    case h_2 hv => simpa only [hv, hp] using formOk_iff_of_fields hsel rfl (fieldsOk_iff_of_configureClass hsel)
    case h_3 hv => simpa only [hv, hp] using formOk_iff_of_fields hsel rfl (fieldsOk_iff_of_configureRange hsel)
    case h_1 hv | h_4 hv | h_5 hv | h_6 hv =>
      have hfields := fieldsOk_iff_of_noIndex (r := r) (hsel ▸ rfl)
      simpa only [hv, hp] using formOk_iff_of_fields hsel rfl hfields
    case h_7 => simp only [*, formOk_of_unknown hsel, Bool.false_eq_true, not_true]

/-- R191: the check by rows is the rule's list. Case `h_k` is the row of kind byte `k`; `h_16` is that of a byte that is no
request kind. -/
theorem formOk_iff_not_wrongForm (r : Request) : r.formOk = true ↔ ¬ r.wrongForm := by
  have hrow := Request.row.eq_def r
  split at hrow
  case h_2 hk => exact formOk_iff_of_configure hk
  case h_7 hk =>
    simpa only [Request.wrongForm, hk] using formOk_iff_of_fields hrow rfl (fieldsOk_iff_of_loadWatchEntry hrow)
  case h_10 hk =>
    simpa only [Request.wrongForm, hk] using formOk_iff_of_fields hrow rfl (fieldsOk_iff_of_readRoster hrow)
  case h_12 hk =>
    simpa only [Request.wrongForm, hk] using formOk_iff_of_fields hrow rfl (fieldsOk_iff_of_readCondition hrow)
  case h_14 hk =>
    simpa only [Request.wrongForm, hk] using formOk_iff_of_fields hrow rfl (fieldsOk_iff_of_endAttention hrow)
  case h_16 => simp only [Request.wrongForm, *, formOk_of_unknown hrow, Bool.false_eq_true, not_true]
  case h_1 hk | h_3 hk | h_4 hk | h_5 hk | h_6 hk | h_8 hk | h_9 hk | h_11 hk | h_13 hk | h_15 hk =>
    simpa only [Request.wrongForm, hk] using formOk_iff_of_lengthOnly hrow rfl rfl

/-! ## The answer (R191) -/

/-- Every row's command judges the request by its form before anything else. -/
theorem exec_command_eq_serve (row : RequestRow) :
    ∃ taken take, ∀ s, exec row.command s = .next (serve row taken take s) := by
  cases row <;> exact ⟨_, _, fun _ => rfl⟩

theorem exec_command_refusedForm {rest : List Request} (h : Serving s r rest) (hform : r.formOk = false) :
    exec r.row.command s = .next (s.replied rest [r.kind, ResultCode.refusedForm.code]) := by
  obtain ⟨taken, take, hexec⟩ := exec_command_eq_serve r.row
  rw [hexec, serve_refusedForm_replied h rfl hform]

end Sys2Proof.Machine

open Sys2Proof Sys2Proof.Machine

/-- Settles O1: the list of R191 is the check by rows, and each row's command refuses what fails it. -/
theorem wrongFormRefused : Obligations.WrongFormRefused := by
  unfold Obligations.WrongFormRefused
  refine fun s r rest h => ⟨formOk_iff_not_wrongForm r, fun hwrong => ?_, fun hkind => ?_⟩
  · have hform : r.formOk = false := Bool.eq_false_iff.2 fun hok => (formOk_iff_not_wrongForm r).1 hok hwrong
    exact exec_command_refusedForm h hform
  · have hrow : r.row = .unknown := row_of_unknownKind hkind
    have hanswer : exec r.row.command s = .next (s.replied rest [r.kind, 5]) :=
      exec_command_refusedForm h (formOk_of_unknown hrow)
    rwa [hrow] at hanswer
end

section
/-! What a command can do, said once: every command but the two resets is a run of a few kinds of change, each with the
condition under which it is made. The invariants and the rules of the whole machine follow by induction over such runs. -/

namespace Sys2Proof.Machine

/-! ## The kinds of change -/

/-- What a command may make of the tally. A title is created, if at all, in the tally the command found, `origin`. -/
inductive TallyMove (c : Instr) (r : Rules) (origin : Tally) : Tally → Tally → Prop
  | unpin (t : Tally) (k : TitleKey) : TallyMove c r origin t { t with table := unpin t.table k }
  | touch {t : Tally} {k : TitleKey} {table : List Entry} {found : Option Entry} :
      touchEntry t.table k = .ok (table, found) → TallyMove c r origin t { t with table := table }
  | answer {t : Tally} {p : List Byte} {a : Applied} :
      mergeAnswer t.table (readAnswer p) = .ok a → TallyMove c r origin t { t with table := a.table }
  | lookup {t : Tally} {k : TitleKey} {table : List Entry} {found : Option Certainty} : t = origin →
      lookup r t.table k = .ok (table, found) → TallyMove c r origin t { t with table := table }
  | claim {t : Tally} {lane : Lane} {p : List Byte} {a : Applied} : t = origin →
      applyClaim r t.table lane (readClaim p) = .ok a → TallyMove c r origin t { t with table := a.table }
  | correction {t : Tally} {p : List Byte} {a : Applied} : t = origin →
      applyCorrection r t.table (readCorrection p) = .ok a → TallyMove c r origin t { t with table := a.table }
  | certain {t : Tally} (k : TitleKey) : t = origin → c = .inquiryWindowExpiry k →
      TallyMove c r origin t { t with table := makeCertain t.table k }
  | epoch (t : Tally) : TallyMove c r origin t t.advanceEpoch

/-- What a request makes of the condition unit: the three settings of R178 in CONFIGURING, and the flags of R172, R173 and
R176. -/
inductive CondMove (c : Instr) (st : StationState) (u : ConditionUnit) : ConditionUnit → Prop
  | releaseDeferred : CondMove c st u u.releaseDeferred
  | clearSets : st ≠ .halted → CondMove c st u u.clearSets
  | acknowledge {k : Condition} : highest u.pending = some k → CondMove c st u (u.acknowledge k)
  | endService (k : Condition) : CondMove c st u { u with inService := takeFrom u.inService k }
  | clearFlags (m : CondSet) : c = .clearConditions → CondMove c st u (u.clearFlags m)
  | mask (m : CondSet) : c = .configureMask → st = .configuring → CondMove c st u { u with mask := m }
  | routing (m : CondSet) : c = .configureStopRouting → st = .configuring → CondMove c st u { u with routing := m }
  | autoEnd (b : Bool) : c = .configureAutomaticEnd → st = .configuring → CondMove c st u { u with autoEnd := b }

/-- The changes of the station state that a request or the own GREETING makes (10.2). -/
def Enters (c : Instr) (old new : StationState) : Prop :=
  (c = .commence ∧ old = .configuring ∧ new = .joining) ∨
    (c = .ownGreetingHandled ∧ old = .joining ∧ new = .run) ∨
    (c = .pause ∧ old = .run ∧ new = .paused) ∨
    (c = .resume ∧ (old = .run ∨ old = .paused) ∧ new = .run)

/-- The commands that read tally entries with their parity check, and so can halt the station (R3). -/
def ReadsTally (c : Instr) : Prop :=
  c = .present ∨ c = .readEntry ∨ (∃ n, c = .attemptStart n) ∨ c = .peerClaim ∨ c = .peerCorrection ∨
    c = .peerAnswer ∨ c = .peerInquiry ∨ c = .ownClaimApplied ∨ c = .ownCorrectionApplied ∨ c = .ownAnswerMerged

/-- The commands that can halt the station, with the condition that is then recorded (R169). -/
def Halts (c : Instr) (k : Condition) : Prop :=
  (c = .duplicateLane ∧ k = .duplicateLane) ∨ (k = .tallyMemoryFault ∧ ReadsTally c)

/-- The decided records at the head have left for the output stream (R49). -/
def releaseQueue (s : State) : State :=
  (s.setArrival { s.arrival with items := (releaseHead s.arrival.items s.port.output).1 }).setPort
    { s.port with output := (releaseHead s.arrival.items s.port.output).2 }

/-- The states that command `c` can pass through from `s₀` on. -/
inductive Reach (c : Instr) (s₀ : State) : State → Prop
  | start : Reach c s₀ s₀
  | refresh {s : State} : Reach c s₀ s → Reach c s₀ (refresh s)
  | occur {s : State} (k : Condition) (d : Detail) : Reach c s₀ s → Reach c s₀ (occur k d s)
  | cond {s : State} {u : ConditionUnit} : Reach c s₀ s → CondMove c s.station.state s.cond u → Reach c s₀ (s.setCond u)
  | tally {s : State} {t : Tally} : Reach c s₀ s → TallyMove c s.rules s₀.tally s.tally t → Reach c s₀ (s.setTally t)
  | items {s : State} (f : Item → Item) (belt : Bool) : Reach c s₀ s → (∀ it, (f it).tag = it.tag) →
      Reach c s₀ (s.setArrival { s.arrival with items := s.arrival.items.map f, belt := belt })
  | append {s : State} (it : Item) : Reach c s₀ s → c = .present → s.arrival = s₀.arrival →
      s.port.output = s₀.port.output → s.arrival.items.length < 8 → it.tag = s.arrival.nextTag →
      Reach c s₀ (appendItem it s)
  | release {s : State} : Reach c s₀ s → Reach c s₀ (releaseQueue s)
  | claim {s : State} {x : ClaimSequencer} : Reach c s₀ s → x.roster.length = s.claim.roster.length →
      (s.claim.corrections.length ≤ 4 → x.corrections.length ≤ 4) → Reach c s₀ (s.setClaim x)
  | inquiry {s : State} {x : InquiryUnit} : Reach c s₀ s →
      (s.inquiry.answers.length ≤ 4 → x.answers.length ≤ 4) →
      Reach c s₀ (s.setInquiry x)
  | line {s : State} {x : Transceiver} : Reach c s₀ s →
      (s.line.discards.length ≤ 4 → x.discards.length ≤ 4) →
      Reach c s₀ (s.setLine x)
  | access {s : State} (x : LineAccess) : Reach c s₀ s → Reach c s₀ (s.setAccess x)
  | hit {s : State} (i : Nat) : Reach c s₀ s → Reach c s₀ (s.setWatch (addHit s.watch i))
  | load {s : State} (i : Nat) (w : WatchEntry) : Reach c s₀ s → c = .loadWatchEntry →
      Reach c s₀ (s.setWatch (s.watch.set i w))
  | rules {s : State} {x : Rules} : Reach c s₀ s → s₀.station.state = .configuring →
      c = .configureTimes ∨ c = .configureClass ∨ c = .configureRange →
      (s.rules.inRange → x.inRange) → x.classes.length = s.rules.classes.length →
      x.ranges.length = s.rules.ranges.length → Reach c s₀ (s.setRules x)
  | assemble {s : State} {x : LanePort} : Reach c s₀ s → x.buffer = s.port.buffer → x.output = s.port.output →
      x.clearing = s.port.clearing → Reach c s₀ (s.setPort x)
  | sent {s : State} {x : LanePort} : Reach c s₀ s → c = .outputRecordSent → x.buffer = s.port.buffer →
      x.output = s.port.output.drop 1 → x.clearing = s.port.clearing → Reach c s₀ (s.setPort x)
  | buffered {s : State} {x : LanePort} {r : Request} : Reach c s₀ s → s.port.buffer.length < 4 →
      x.buffer = s.port.buffer ++ [r] → x.output = s.port.output → x.clearing = s.port.clearing →
      Reach c s₀ (s.setPort x)
  | reply {s : State} (r : Request) (res : ResultCode) (bs : List Byte) : Reach c s₀ s → s.port.clearing = false →
      replyCount s.port.output < 4 → Reach c s₀ (answerRequest r res bs s)
  | clearing {s : State} : Reach c s₀ s → replyCount s.port.output < 4 →
      Reach c s₀ (s.setPort { s.port with clearing := true })
  | cleared {s : State} {x : LanePort} (r : Request) : Reach c s₀ s → s.port.clearing = true →
      x.buffer = s.port.buffer.drop 1 → x.output = s.port.output ++ [replyRecord r .done []] → x.clearing = false →
      Reach c s₀ (s.setPort x)
  | abandonClearing {s : State} : Reach c s₀ s → Reach c s₀ (s.setPort { s.port with clearing := false })
  | enter {s : State} {st : StationState} : Reach c s₀ s → s.station = s₀.station → Enters c s.station.state st →
      Reach c s₀ (s.setStation { s.station with state := st })
  | halt {s : State} {k : Condition} : Reach c s₀ s → s.station.state.receives = true → Halts c k →
      has s.cond.recorded k = true → Reach c s₀ (s.setStation { s.station with state := .halted })
  | powerOff : c = .powerGoodFall → Reach c s₀ (powerDown s₀)
  | draws {s : State} (n : Nat) : Reach c s₀ s → Reach c s₀ (s.setDraws n)
  | clock {s : State} (x : Clock) : Reach c s₀ s → Reach c s₀ (s.setClock x)
  | pending {s : State} (x : List Instr) : Reach c s₀ s → Reach c s₀ (s.setPending x)

/-! ## Room on the unconfirmed list (R132) -/

/-- An occurrence does not read the line transceiver. -/
theorem occur_setLine (k : Condition) (d : Detail) (s : State) (x : Transceiver) :
    occur k d (s.setLine x) = (occur k d s).setLine x := by
  unfold occur
  split
  · rename_i hs
    exact (if_pos hs).symm ▸ rfl
  · rename_i hs
    exact (if_neg hs).symm ▸ rfl

theorem confirmDiscard_setLine (d : Discard) (s : State) (x : Transceiver) :
    confirmDiscard d (s.setLine x) = (confirmDiscard d s).setLine x := by
  simp only [confirmDiscard, occur_setLine]
  rfl

theorem discardRoom_cases (s : State) :
    (discardRoom s = s ∧ s.line.discards.length < 4) ∨
      ∃ oldest rest, s.line.discards = oldest :: rest ∧ 4 ≤ s.line.discards.length ∧
        discardRoom s = confirmDiscard oldest (s.setLine { s.line with discards := rest }) := by
  unfold discardRoom
  split
  · rename_i oldest rest hd
    split
    · rename_i hfull
      exact .inr ⟨oldest, rest, hd, hfull, rfl⟩
    · rename_i hroom
      exact .inl ⟨rfl, Nat.not_le.1 hroom⟩
  · rename_i hd
    exact .inl ⟨rfl, by simp [hd]⟩

theorem placeDiscard_cases (d : Discard) (s : State) :
    (s.line.discards.length < 4 ∧
      placeDiscard d s = s.setLine { s.line with discards := s.line.discards ++ [d] }) ∨
      ∃ oldest rest, s.line.discards = oldest :: rest ∧ 4 ≤ s.line.discards.length ∧
        placeDiscard d s = confirmDiscard oldest (s.setLine { s.line with discards := rest ++ [d] }) := by
  unfold placeDiscard
  rcases discardRoom_cases s with ⟨heq, hroom⟩ | ⟨oldest, rest, hd, hfull, heq⟩
  · exact .inl ⟨hroom, by rw [heq]⟩
  · refine .inr ⟨oldest, rest, hd, hfull, ?_⟩
    simp only [heq, confirmDiscard_setLine]
    rfl

/-- The state a build leaves, with or without a frame (R141). -/
def Build.left : Build → State
  | .frame _ _ s => s
  | .refusedBuild s => s

namespace Reach

variable {c : Instr} {s₀ s : State}

/-! ## Items and conditions -/

theorem occurAll (ds : List Detail) (h : Reach c s₀ s) : Reach c s₀ (occurAll ds s) :=
  foldl_induct (P := Reach c s₀) _ (fun _ d hs => hs.occur d.condition d) ds s h

theorem changeItem (tag : Byte) {f : Item → Item} (hf : ∀ it, (f it).tag = it.tag) (h : Reach c s₀ s) :
    Reach c s₀ (changeItem tag f s) :=
  h.items (fun it => if it.tag == tag then f it else it) s.arrival.belt fun it => by
    split
    · exact hf it
    · rfl

theorem decideItem (tag : Byte) (d : Disposition) (reason : HoldReason) (h : Reach c s₀ s) :
    Reach c s₀ (decideItem tag d reason s) := by
  unfold Machine.decideItem
  split
  · exact h
  · rename_i it _
    split
    · have marked := h.changeItem tag (f := fun it => it.decidedAs d reason) fun _ => rfl
      refine occurAll _ ?_
      split
      · exact marked.tally (.unpin _ it.key)
      · exact marked
    · exact h

theorem decideAll (reason : HoldReason) (h : Reach c s₀ s) : Reach c s₀ (decideAll reason s) :=
  foldl_induct (P := Reach c s₀) _ (fun _ tag hs => hs.decideItem tag .hold reason) _ s h

theorem finishClearWork (h : Reach c s₀ s) : Reach c s₀ (finishClearWork s) := by
  unfold Machine.finishClearWork
  split
  · rename_i hc
    have hclearing : s.port.clearing = true := (Bool.and_eq_true_iff.1 hc).1
    have sets : ∃ u, Reach c s₀ (s.setCond u) ∧
        (if s.station.state == .halted then s else s.setCond s.cond.clearSets) = s.setCond u := by
      split
      · exact ⟨s.cond, h, rfl⟩
      · rename_i hs
        exact ⟨_, h.cond (.clearSets (by simpa using hs)), rfl⟩
    obtain ⟨u, hu, heq⟩ := sets
    dsimp only
    rw [heq]
    split
    · rename_i r _ _
      show Reach c s₀ ((s.setCond u).setPort _)
      exact hu.cleared r hclearing rfl rfl rfl
    · exact hu.abandonClearing
  · exact h

theorem releaseItems (h : Reach c s₀ s) : Reach c s₀ (releaseItems s) := by
  unfold Machine.releaseItems
  dsimp only
  refine finishClearWork ?_
  split
  · exact h.release.cond .releaseDeferred
  · exact h.release

/-! ## HALTED -/

theorem enterHalted {k : Condition} (hc : Halts c k) (hk : s.station.state.receives = true → has s.cond.recorded k = true)
    (h : Reach c s₀ s) : Reach c s₀ (enterHalted s) := by
  unfold Machine.enterHalted
  split
  · rename_i hs
    have aborted := (h.halt hs hc (hk hs)).access (s.access.abort s.station.rate)
    have decided := aborted.decideAll .halted
    refine releaseItems ?_
    refine Reach.line (Reach.inquiry (Reach.claim decided rfl ?_) ?_) ?_ <;> simp
  · exact h


/-- A halt-class occurrence is recorded, and brings HALTED (R169). -/
theorem haltOccurrence {k : Condition} (d : Detail) (hc : Halts c k) (h : Reach c s₀ s) :
    Reach c s₀ (haltOccurrence k d s) :=
  (h.occur k d).enterHalted hc fun hs => by
    have hlive : s.station.state ≠ .strapFault := fun hf => by simp [hf, StationState.receives] at hs
    simp [occur_taken hlive]

theorem memoryFault (k : TitleKey) (hc : ReadsTally c) (h : Reach c s₀ s) : Reach c s₀ (memoryFault k s) :=
  (h.draws (s.draws + 1)).haltOccurrence _ (.inr ⟨rfl, hc⟩)

/-! ## The epoch, items and inquiries -/

theorem advanceEpoch (h : Reach c s₀ s) : Reach c s₀ (advanceEpoch s) := h.tally (.epoch _)

theorem queueClaim (tag : Byte) (h : Reach c s₀ s) : Reach c s₀ (queueClaim tag s) :=
  .access _ (h.changeItem tag (f := fun it => { it with stage := .queued }) fun _ => rfl)

theorem joinInquiry (tag : Byte) (k : TitleKey) (h : Reach c s₀ s) : Reach c s₀ (joinInquiry tag k s) := by
  unfold Machine.joinInquiry
  split
  · exact .inquiry h id
  · exact .access _ (.inquiry h id)

theorem closeToQueued (k : TitleKey) (h : Reach c s₀ s) : Reach c s₀ (closeToQueued k s) := by
  unfold Machine.closeToQueued
  split
  · exact h
  · exact foldl_induct (P := Reach c s₀) _ (fun _ tag hs => hs.queueClaim tag) _ _ (h.inquiry id)

theorem leaveInquiry (tag : Byte) (k : TitleKey) (h : Reach c s₀ s) : Reach c s₀ (leaveInquiry tag k s) := by
  unfold Machine.leaveInquiry
  split
  · exact h
  · rename_i q _
    split
    · have removed : Reach c s₀ (s.setInquiry (s.inquiry.remove q.key)) := h.inquiry id
      unfold closeInquiry
      cases q.stage with
      | queued => exact removed.access _
      | sending => exact removed.access _
      | window => exact removed
    · exact .access _ (.inquiry h id)

/-! ## Hand-offs of the tally engine -/

theorem scanLineEvent (k : TitleKey) (lane : Lane) (e : WatchEvent) (h : Reach c s₀ s) :
    Reach c s₀ (scanLineEvent k lane s e) := by
  unfold Machine.scanLineEvent
  split
  · exact h
  · exact (h.hit _).occur _ _

theorem scanApplied (k : TitleKey) (lane : Lane) (isClaim : Bool) (counts : Option (Nat × Nat)) (h : Reach c s₀ s) :
    Reach c s₀ (scanApplied k lane isClaim counts s) := by
  unfold Machine.scanApplied
  split
  · exact h
  · exact foldl_induct (P := Reach c s₀) _ (fun _ e hs => hs.scanLineEvent k lane e) _ s h

theorem setRecord (lane : Lane) (x : LaneRecord) (h : Reach c s₀ s) :
    Reach c s₀ (s.setClaim (s.claim.setRecord lane x)) :=
  h.claim (List.length_set ..) id

theorem rosterCheck (kind : FrameKind) (lane : Lane) (seq : Byte) (k : TitleKey) (h : Reach c s₀ s) :
    Reach c s₀ (rosterCheck kind lane seq k s) := by
  unfold Machine.rosterCheck
  dsimp only
  split
  · exact ((h.setRecord _ _).occur _ _).advanceEpoch
  · exact h.setRecord _ _

theorem scheduleCorrection (lane : Lane) (seq : Byte) (k : TitleKey) (value : Nat) (h : Reach c s₀ s) :
    Reach c s₀ (scheduleCorrection lane seq k value s) := by
  unfold Machine.scheduleCorrection
  split
  · rename_i hroom
    simp only [Config.correctionLimit] at hroom
    refine h.claim rfl ?_
    simp only [List.length_append, List.length_singleton]
    omega
  · exact h.occur _ _

/-- Corrections that are only taken out or changed one by one do not become more. -/
theorem fewerCorrections {x : ClaimSequencer} (hr : x.roster = s.claim.roster)
    (hx : x.corrections.length ≤ s.claim.corrections.length) (h : Reach c s₀ s) : Reach c s₀ (s.setClaim x) :=
  h.claim (congrArg List.length hr) (Nat.le_trans hx)

/-- Answers that are only taken out or changed one by one do not become more. -/
theorem fewerAnswers {x : InquiryUnit} (hx : x.answers.length ≤ s.inquiry.answers.length) (h : Reach c s₀ s) :
    Reach c s₀ (s.setInquiry x) :=
  h.inquiry (Nat.le_trans hx)

/-- Discards that are only taken out do not become more. -/
theorem fewerDiscards {x : Transceiver} (hx : x.discards.length ≤ s.line.discards.length) (h : Reach c s₀ s) :
    Reach c s₀ (s.setLine x) :=
  h.line (Nat.le_trans hx)

theorem removeCorrections (p : Correction → Bool) (h : Reach c s₀ s) : Reach c s₀ (removeCorrections p s) :=
  .access _ (.fewerCorrections rfl (List.length_filter_le ..) h)

theorem removeAnswers (p : Answer → Bool) (h : Reach c s₀ s) : Reach c s₀ (removeAnswers p s) :=
  .access _ (.fewerAnswers (List.length_filter_le ..) h)

/-! ## The receiver -/

theorem lineIdle (h : Reach c s₀ s) : Reach c s₀ (lineIdle s) := h.line id

theorem confirmDiscard (d : Discard) (h : Reach c s₀ s) : Reach c s₀ (confirmDiscard d s) :=
  (h.occur _ _).advanceEpoch

theorem discardRoom (h : Reach c s₀ s) : Reach c s₀ (discardRoom s) := by
  rcases discardRoom_cases s with ⟨heq, -⟩ | ⟨oldest, rest, hd, -, heq⟩
  · rwa [heq]
  · rw [heq]
    exact confirmDiscard oldest (.fewerDiscards (by simp [hd]) h)

theorem placeDiscard (d : Discard) (h : Reach c s₀ s) : Reach c s₀ (placeDiscard d s) := by
  rcases placeDiscard_cases d s with ⟨hroom, heq⟩ | ⟨oldest, rest, hd, -, heq⟩
  · rw [heq]
    refine h.line fun _ => ?_
    simp only [List.length_append, List.length_singleton]
    omega
  · rw [heq]
    refine confirmDiscard oldest (h.line fun hlen => ?_)
    simpa [hd] using hlen

theorem takeHeader (data : Byte) (noisy : Bool) (h : Reach c s₀ s) : Reach c s₀ (takeHeader data noisy s) := by
  have before : Reach c s₀ (match s.line.assembler with
      | .assembling f => Machine.placeDiscard (discardOf f.header) s
      | .muted => s) := by
    split
    · exact h.placeDiscard _
    · exact h
  unfold Machine.takeHeader setAssembler
  dsimp only
  split
  · exact before.line id
  · exact (before.placeDiscard _).line id

theorem readBack (data : Byte) (mark noisy : Bool) (h : Reach c s₀ s) : Reach c s₀ (readBack data mark noisy s) := by
  unfold Machine.readBack
  split
  · split
    · exact h
    · exact h.access _
  · exact h

theorem readBackFault (h : Reach c s₀ s) : Reach c s₀ (readBackFault s) := by
  unfold Machine.readBackFault
  split
  · exact h.access _
  · exact h

theorem takePayload (data : Byte) (noisy : Bool) (h : Reach c s₀ s) : Reach c s₀ (takePayload data noisy s) := by
  unfold Machine.takePayload setAssembler
  dsimp only
  split
  · exact h
  · split <;> exact h.line id

theorem storeFrame (kind : FrameKind) (f : RawFrame) (h : Reach c s₀ s) : Reach c s₀ (storeFrame kind f s) := by
  unfold Machine.storeFrame
  dsimp only
  split
  case h_1 | h_2 =>
    split
    · exact .occur _ _ (.line h id)
    · exact .line h id
  case h_3 => exact advanceEpoch (.occur _ _ (.line h id))

/-! ## Frames in line order -/

theorem takeCorrection (lane : Lane) (f : CorrectionFields) (h : Reach c s₀ s) :
    Reach c s₀ (takeCorrection lane f s) := by
  unfold Machine.takeCorrection
  split
  · exact h.changeItem _ fun _ => rfl
  · exact h.occur _ _

theorem scheduleAnswer (inquirer : Lane) (k : TitleKey) (count : Option Nat) (h : Reach c s₀ s) :
    Reach c s₀ (scheduleAnswer inquirer k count s) := by
  unfold Machine.scheduleAnswer
  split
  · split
    · rename_i hroom
      simp only [Config.answerLimit] at hroom
      refine h.inquiry ?_
      simp only [List.length_append, List.length_singleton]
      omega
    · exact h.occur _ _
  · exact h

theorem assignOrdinal (seq : Byte) (n : Nat) (h : Reach c s₀ s) : Reach c s₀ (assignOrdinal seq n s) := by
  unfold Machine.assignOrdinal
  split
  · exact h
  · rename_i it _
    have counted := h.changeItem it.tag (f := fun it => { it with ordinal := some n }) fun _ => rfl
    dsimp only
    split
    · exact counted.changeItem _ fun _ => rfl
    · exact counted.decideItem _ _ _

theorem releaseHeld (h : Reach c s₀ s) : Reach c s₀ (releaseHeld s) :=
  .access _ (.fewerCorrections rfl (Nat.le_of_eq (List.length_map ..)) h)

/-! ## Line access -/

theorem contention (kind : FrameKind) (k : Option TitleKey) (h : Reach c s₀ s) : Reach c s₀ (contention kind k s) :=
  h.occur _ _

theorem abandon (o : Owner) (h : Reach c s₀ s) : Reach c s₀ (abandon o s) := by
  cases o with
  | claim tag => exact h.decideItem tag .hold .contention
  | inquiry k => exact (h.contention .inquiry (some k)).closeToQueued k
  | closedInquiry => exact h
  | answer l k => exact contention _ _ (.fewerAnswers (List.length_filter_le ..) h)
  | correction l q n => exact contention _ _ (.fewerCorrections rfl (List.length_filter_le ..) h)
  | greeting => exact contention _ _ (.claim h rfl id)

theorem returnEntry (o : Owner) (h : Reach c s₀ s) : Reach c s₀ (returnEntry o s) := by
  have back := h.access (s.access.changeEntries o fun e => { e with inFlight := false })
  cases o with
  | claim tag => exact back.changeItem tag (f := fun it => { it with stage := .queued }) fun _ => rfl
  | inquiry k => exact .inquiry back id
  | closedInquiry | answer | correction | greeting => exact back

theorem endAttempt (e : TxEntry) (h : Reach c s₀ s) : Reach c s₀ (endAttempt e s) := by
  unfold Machine.endAttempt
  dsimp only
  split
  · split
    · exact decideItem _ _ _ (.access _ h)
    · exact .access _ h
  · split
    · exact abandon _ (.access _ h)
    · exact h.returnEntry _

/-! ## The build of a frame -/

theorem buildClaim (tag : Byte) (hc : ReadsTally c) (h : Reach c s₀ s) : Reach c s₀ (buildClaim tag s).left := by
  unfold Machine.buildClaim
  dsimp only
  split
  · exact h.access _
  · split
    · exact memoryFault _ hc (.access _ h)
    · rename_i it _ _ table entry htouch
      have touched := h.tally (.touch htouch)
      split
      · exact touched.changeItem tag (f := fun it => { it with stage := .onLine }) fun _ => rfl
      · have noted (check : MassCheck) :=
          touched.changeItem tag (f := fun it => { it with massCheck := check }) fun _ => rfl
        split
        · exact decideItem _ _ _ (.access _ (noted _))
        · exact changeItem _ (fun _ => rfl) (.claim (noted _) rfl id)

theorem buildAnswer (inquirer : Lane) (k : TitleKey) (hc : ReadsTally c) (h : Reach c s₀ s) :
    Reach c s₀ (buildAnswer inquirer k s).left := by
  have gone := h.access (s.access.removeEntry (.answer inquirer k))
  unfold Machine.buildAnswer
  dsimp only
  split
  · exact gone.memoryFault _ hc
  · rename_i htouch
    split
    · exact .fewerAnswers (List.length_filter_le ..) gone
    · split
      · exact .fewerAnswers (List.length_filter_le ..) (gone.tally (.touch htouch))
      · exact .fewerAnswers (Nat.le_of_eq (List.length_map ..)) (h.tally (.touch htouch))

theorem buildCorrection (o : Owner) (h : Reach c s₀ s) : Reach c s₀ (buildCorrection o s).left := by
  unfold Machine.buildCorrection
  split
  · exact h.access _
  · dsimp only
    split <;> exact .fewerCorrections rfl (Nat.le_of_eq (List.length_map ..)) h

theorem buildFrame (o : Owner) (hc : ReadsTally c) (h : Reach c s₀ s) : Reach c s₀ (buildFrame o s).left := by
  cases o with
  | claim tag => exact h.buildClaim tag hc
  | inquiry k => exact .inquiry h id
  | closedInquiry => exact h.access _
  | answer l k => exact h.buildAnswer l k hc
  | correction l q n => exact h.buildCorrection _
  | greeting => exact h

theorem attempts (hc : ReadsTally c) (idleBits : Nat) :
    ∀ (fuel : Nat) {s : State}, Reach c s₀ s → Reach c s₀ (attempts fuel idleBits s)
  | 0, _, h => h
  | fuel + 1, s, h => by
    unfold Machine.attempts
    split
    · exact h
    · rename_i e _
      have built := h.buildFrame e.owner hc
      split
      · rename_i heq
        rw [heq] at built
        exact built.access _
      · rename_i heq
        rw [heq] at built
        exact attempts hc idleBits fuel built

/-! ## PRESENT -/

theorem presentedScan (tag : Byte) (k : TitleKey) (h : Reach c s₀ s) : Reach c s₀ (presentedScan tag k s).1 := by
  unfold Machine.presentedScan
  split
  · exact h
  · exact changeItem _ (fun _ => rfl) (h.hit _)

end Reach

/-! ## The ways a command comes to act -/

section
variable {c : Instr} {s : State}

theorem reach_serve {row : RequestRow} {taken : StationState → Bool} {take : Request → State → State}
    (act : ∀ r rest, Serving s r rest → r.formOk = true → taken s.station.state = true → Reach c s (take r s)) :
    Reach c s (serve row taken take s) := by
  refine serve_keeps (P := Reach c s) .start (fun r res hr _ => ?_) fun r hr hform hstate => ?_
  · obtain ⟨_, ⟨_, hclearing, hroom, _⟩, _⟩ := requestFor_eq_some.1 hr
    exact .reply r res [] .start hclearing hroom
  · obtain ⟨rest, hserving, _⟩ := requestFor_eq_some.1 hr
    exact act r rest hserving hform hstate

theorem reach_powered {act : State → State} (hact : Reach c s (act s)) : Reach c s (powered act s) :=
  powered_keeps (P := Reach c s) .start fun _ => hact

theorem reach_handleFrame {own : Bool} {kind : FrameKind} {handle : StoredFrame → State → State}
    (act : ∀ f, Reach c s (handle f (s.setLine (freeFrame f s.line)))) : Reach c s (handleFrame own kind handle s) :=
  handleFrame_keeps (P := Reach c s) .start fun f _ _ _ => (act f).refresh

/-- The reply of a request in handling, where the port still stands as the request found it. -/
theorem Reach.answer {r : Request} {rest : List Request} (hserving : Serving s r rest) (res : ResultCode)
    (bs : List Byte) {t : State} (h : Reach c s t) (hport : t.port = s.port) : Reach c s (answerRequest r res bs t) := by
  obtain ⟨_, hclearing, hroom, _⟩ := hserving
  exact .reply r res bs h (hport ▸ hclearing) (hport ▸ hroom)

end

/-! ## Requests -/

section
variable (s : State)

theorem acceptItem_reach {r : Request} {rest : List Request} (h : Serving s r rest) (hroom : s.arrival.items.length < 8) :
    Reach .present s (acceptItem r s) := by
  have appended : Reach .present s (appendItem (newItem r s) s) := .append _ .start rfl rfl rfl hroom rfl
  unfold acceptItem
  dsimp only
  split
  · exact (appended.decideItem _ _ _).answer h _ _ (by simp)
  · have scanned := appended.presentedScan (newItem r s).tag (newItem r s).key
    have hport : (presentedScan (newItem r s).tag (newItem r s).key (appendItem (newItem r s) s)).1.port = s.port := by
      unfold presentedScan
      split <;> simp
    have htally : (presentedScan (newItem r s).tag (newItem r s).key (appendItem (newItem r s) s)).1.tally = s.tally := by
      unfold presentedScan
      split <;> simp
    generalize presentedScan (newItem r s).tag (newItem r s).key (appendItem (newItem r s) s) = x at *
    obtain ⟨u, divert⟩ := x
    dsimp only at *
    split
    · exact (scanned.decideItem _ _ _).answer h _ _ (by simpa using hport)
    · unfold lookupItem
      split
      · exact (scanned.answer h _ _ hport).memoryFault _ (.inl rfl)
      · rename_i table found hlookup
        have pinned : Reach .present s (changeItem (newItem r s).tag (fun it => { it with pinned := true })
            (u.setTally { u.tally with table := table })) :=
          .changeItem _ (fun _ => rfl) (.tally scanned (.lookup htally hlookup))
        dsimp only
        split
        · exact (pinned.queueClaim _).answer h _ _ (by simpa using hport)
        · exact (pinned.joinInquiry _ _).answer h _ _ (by simpa using hport)
        · exact (pinned.joinInquiry _ _).answer h _ _ (by simpa using hport)

theorem present_reach : Reach .present s (present s) :=
  reach_serve fun r rest h _ _ => by
    split
    · exact .answer h _ _ .start rfl
    · split
      · exact .answer h _ _ .start rfl
      · rename_i hroom
        exact (acceptItem_reach s h (Nat.not_le.1 hroom)).refresh

theorem clampClass_inRange (p q : Nat) (r f : Byte) :
    let c := clampClass p q r.toNat f.toNat
    1 ≤ c.p ∧ c.p ≤ 2 ∧ c.s ≤ 6 ∧ c.r ≤ 255 ∧ c.f ≤ 255 := by
  have hr := r.isLt
  have hf := f.isLt
  simp only [clampClass, clampTo_eq (show 1 ≤ 2 by decide), clampTo_zero]
  omega

theorem configureTimes_reach : Reach .configureTimes s (configureTimes s) :=
  reach_serve fun r rest h _ hstate => by
    refine .answer h _ _ (.rules .start (configureState_iff.1 hstate) (.inl rfl) (fun hr => ?_) rfl rfl) rfl
    obtain ⟨hclasses, hranges, -⟩ := hr
    refine ⟨hclasses, hranges, ?_⟩
    simp only [clampTo_eq (show 100 ≤ 5000 by decide), clampTo_eq (show 5 ≤ 100 by decide)]
    omega

theorem configureClass_reach : Reach .configureClass s (configureClass s) :=
  reach_serve fun r rest h _ hstate => by
    refine .answer h _ _ (.rules .start (configureState_iff.1 hstate) (.inr (.inl rfl)) (fun hr => ?_)
      (List.length_set ..) rfl) rfl
    obtain ⟨hclasses, hrest⟩ := hr
    refine ⟨fun c hc => ?_, hrest⟩
    rcases List.mem_or_eq_of_mem_set hc with hold | rfl
    · exact hclasses c hold
    · exact clampClass_inRange _ _ _ _

theorem configureRange_reach : Reach .configureRange s (configureRange s) :=
  reach_serve fun r rest h _ hstate => by
    refine .answer h _ _ (.rules .start (configureState_iff.1 hstate) (.inr (.inr rfl)) (fun hr => ?_)
      rfl (List.length_set ..)) rfl
    obtain ⟨hclasses, hranges, hrest⟩ := hr
    refine ⟨hclasses, fun g hg => ?_, hrest⟩
    rcases List.mem_or_eq_of_mem_set hg with hold | rfl
    · exact hranges g hold
    · simp only [clampRange, clampTo_zero]
      omega

theorem commence_reach : Reach .commence s (commence s) :=
  reach_serve fun r rest h _ hstate =>
    .refresh (.answer h _ _ (.access _ (.enter .start rfl (.inl ⟨rfl, by simpa using hstate, rfl⟩))) rfl)

theorem pause_reach : Reach .pause s (pause s) :=
  reach_serve fun r rest h _ _ => by
    dsimp only
    split
    · rename_i hrun
      exact .refresh (.answer h _ _
        (.cond (.enter .start rfl (.inr (.inr (.inl ⟨rfl, by simpa using hrun, rfl⟩)))) .releaseDeferred) rfl)
    · exact .refresh (.answer h _ _ .start rfl)

theorem resume_reach : Reach .resume s (resume s) :=
  reach_serve fun r rest h _ hstate =>
    .refresh (.answer h _ _
      (.enter .start rfl (.inr (.inr (.inr ⟨rfl, by simpa [pauseStates] using hstate, rfl⟩)))) rfl)

theorem clearWork_reach : Reach .clearWork s (clearWork s) :=
  reach_serve fun r rest h _ _ => by
    obtain ⟨_, _, hroom, _⟩ := h
    have dropped : Reach .clearWork s
        (((s.setAccess (s.access.abort s.station.rate)).setClaim { s.claim with corrections := [] }).setInquiry {}) :=
      .fewerAnswers (Nat.zero_le _) (.fewerCorrections rfl (Nat.zero_le _) (.access _ .start))
    refine .refresh (.releaseItems (.clearing (.decideAll _ (?_ : Reach .clearWork s (requeueGreeting _))) ?_))
    · unfold requeueGreeting
      split
      · exact dropped.access _
      · exact dropped
    · simpa using show replyCount s.port.output < 4 from hroom

theorem readCondition_reach : Reach .readCondition s (readCondition s) :=
  reach_serve fun r rest h _ _ => by
    split
    · exact .answer h _ _ .start rfl
    · split
      · exact .answer h _ _ (.draws _ .start) rfl
      · exact .answer h _ _ .start rfl

theorem ackAttention_reach : Reach .ackAttention s (ackAttention s) :=
  reach_serve fun r rest h _ _ => by
    split
    · exact .answer h _ _ .start rfl
    · rename_i k hk
      exact .refresh (.answer h _ _ (.draws _ (.cond .start (.acknowledge hk))) rfl)

theorem endAttention_reach : Reach .endAttention s (endAttention s) :=
  reach_serve fun r rest h _ _ => by
    split
    · exact .answer h _ _ .start rfl
    · exact .refresh (.answer h _ _ (.cond .start (.endService _)) rfl)

theorem readEntry_reach : Reach .readEntry s (readEntry s) :=
  reach_serve fun r rest h _ _ => by
    dsimp only
    split
    · exact .answer h _ _ .start rfl
    · split
      · exact .answer h _ _ .start rfl
      · exact .refresh (.memoryFault _ (.inr (.inl rfl)) (.answer h _ _ .start rfl))

/-! ## The receiver -/

theorem headerReceived_reach (data : Byte) (noisy : Bool) :
    Reach (.headerReceived data noisy) s (headerReceived data noisy s) := by
  unfold headerReceived
  dsimp only
  split
  · split
    · exact (Reach.lineIdle .start).readBack _ _ _
    · exact ((Reach.lineIdle .start).takeHeader _ _).refresh
  · exact .start

theorem payloadCharacterReceived_reach (data : Byte) (noisy : Bool) :
    Reach (.payloadCharacterReceived data noisy) s (payloadCharacterReceived data noisy s) := by
  unfold payloadCharacterReceived
  dsimp only
  split
  · split
    · exact (Reach.lineIdle .start).readBack _ _ _
    · exact (Reach.lineIdle .start).takePayload _ _
  · exact .start

theorem dockFramingError_reach : Reach .dockFramingError s (dockFramingError s) := by
  unfold dockFramingError
  dsimp only
  split
  · split
    · exact (Reach.lineIdle .start).readBackFault
    · split
      · exact .lineIdle .start
      · exact .refresh (.placeDiscard _ (.line (.lineIdle .start) id))
  · exact .start

theorem lineBreak_reach : Reach .lineBreak s (lineBreak s) := by
  unfold lineBreak
  dsimp only
  split
  · split
    · exact .readBackFault (.line .start id)
    · exact .line (.line .start id) fun _ => Nat.zero_le _
  · exact .start

theorem truncation_reach : Reach .truncation s (truncation s) := by
  unfold truncation
  split
  · exact .start
  · split
    · exact .refresh (.confirmDiscard _ (.discardRoom (.line .start id)))
    · exact .start

theorem discardConfirmed_reach : Reach .discardConfirmed s (discardConfirmed s) := by
  unfold discardConfirmed
  split
  · exact .start
  · rename_i hd
    split
    · exact .refresh (.confirmDiscard _ (.fewerDiscards (by simp [hd]) .start))
    · exact .start

theorem peerFrameComplete_reach : Reach .peerFrameComplete s (peerFrameComplete s) := by
  unfold peerFrameComplete
  split
  · exact .start
  · rename_i rest _
    dsimp only
    split
    · have taken : Reach .peerFrameComplete s (s.setLine { s.line with atCheck := rest }) := .line .start id
      refine .refresh ?_
      split
      · split
        · exact taken.storeFrame _ _
        · exact taken.placeDiscard _
      · exact taken.placeDiscard _
    · exact .start

/-! ## Frames in line order -/

theorem peerClaim_reach : Reach .peerClaim s (handleFrame false .claim handlePeerClaim s) :=
  reach_handleFrame fun f => by
    have hc : ReadsTally .peerClaim := by simp [ReadsTally]
    have freed : Reach .peerClaim s (s.setLine (freeFrame f s.line)) := .line .start id
    unfold handlePeerClaim
    dsimp only
    split
    · exact freed.memoryFault _ hc
    · rename_i happly
      have applied := freed.tally (.claim rfl happly)
      split
      · exact .scheduleCorrection _ _ _ _ (.rosterCheck _ _ _ _ (.scanApplied _ _ _ _ applied))
      · exact .rosterCheck _ _ _ _ (.scanApplied _ _ _ _ applied)

theorem peerCorrection_reach : Reach .peerCorrection s (handleFrame false .correction handlePeerCorrection s) :=
  reach_handleFrame fun f => by
    have hc : ReadsTally .peerCorrection := by simp [ReadsTally]
    have freed : Reach .peerCorrection s (s.setLine (freeFrame f s.line)) := .line .start id
    unfold handlePeerCorrection
    dsimp only
    split
    · exact freed.memoryFault _ hc
    · rename_i happly
      have applied := freed.tally (.correction rfl happly)
      refine .removeCorrections _ ?_
      split
      · exact .takeCorrection _ _ (.rosterCheck _ _ _ _ (.scanApplied _ _ _ _ applied))
      · exact .rosterCheck _ _ _ _ (.scanApplied _ _ _ _ applied)

theorem peerAnswer_reach : Reach .peerAnswer s (handleFrame false .answer handlePeerAnswer s) :=
  reach_handleFrame fun f => by
    have hc : ReadsTally .peerAnswer := by simp [ReadsTally]
    have freed : Reach .peerAnswer s (s.setLine (freeFrame f s.line)) := .line .start id
    unfold handlePeerAnswer
    dsimp only
    split
    · exact freed.memoryFault _ hc
    · rename_i hmerge
      exact .removeAnswers _ ((freed.tally (.answer hmerge)).scanApplied _ f.lane false _)

theorem peerInquiry_reach : Reach .peerInquiry s (handleFrame false .inquiry handlePeerInquiry s) :=
  reach_handleFrame fun f => by
    have hc : ReadsTally .peerInquiry := by simp [ReadsTally]
    have freed : Reach .peerInquiry s (s.setLine (freeFrame f s.line)) := .line .start id
    unfold handlePeerInquiry
    dsimp only
    split
    · exact freed.memoryFault _ hc
    · rename_i htouch
      exact (freed.tally (.touch htouch)).scheduleAnswer _ _ _

theorem ownClaim_reach : Reach .ownClaimApplied s (handleFrame true .claim handleOwnClaim s) :=
  reach_handleFrame fun f => by
    have hc : ReadsTally .ownClaimApplied := by simp [ReadsTally]
    have freed : Reach .ownClaimApplied s (s.setLine (freeFrame f s.line)) := .line .start id
    unfold handleOwnClaim
    dsimp only
    split
    · exact freed.memoryFault _ hc
    · rename_i happly
      exact ((freed.tally (.claim rfl happly)).scanApplied _ f.lane true _).assignOrdinal _ _

theorem ownCorrection_reach : Reach .ownCorrectionApplied s (handleFrame true .correction handleOwnCorrection s) :=
  reach_handleFrame fun f => by
    have hc : ReadsTally .ownCorrectionApplied := by simp [ReadsTally]
    have freed : Reach .ownCorrectionApplied s (s.setLine (freeFrame f s.line)) := .line .start id
    unfold handleOwnCorrection
    dsimp only
    split
    · exact freed.memoryFault _ hc
    · rename_i happly
      exact .fewerCorrections rfl (List.length_filter_le ..)
        ((freed.tally (.correction rfl happly)).scanApplied _ f.lane false _)

theorem ownAnswer_reach : Reach .ownAnswerMerged s (handleFrame true .answer handleOwnAnswer s) :=
  reach_handleFrame fun f => by
    have hc : ReadsTally .ownAnswerMerged := by simp [ReadsTally]
    have freed : Reach .ownAnswerMerged s (s.setLine (freeFrame f s.line)) := .line .start id
    unfold handleOwnAnswer
    dsimp only
    split
    · exact freed.memoryFault _ hc
    · rename_i hmerge
      exact .fewerAnswers (List.length_filter_le ..) ((freed.tally (.answer hmerge)).scanApplied _ f.lane false _)

theorem ownGreeting_reach : Reach .ownGreetingHandled s (handleFrame true .greeting handleOwnGreeting s) :=
  reach_handleFrame fun f => by
    have freed : Reach .ownGreetingHandled s (s.setLine (freeFrame f s.line)) := .line .start id
    unfold handleOwnGreeting
    dsimp only
    refine .releaseHeld (.claim ?_ (List.length_set ..) id)
    split
    · rename_i hjoining
      exact .enter freed rfl (.inr (.inl ⟨rfl, by simpa using hjoining, rfl⟩))
    · exact freed

theorem duplicateLane_reach : Reach .duplicateLane s (duplicateLane s) := by
  unfold duplicateLane
  split
  · split
    · split
      · exact .refresh (.haltOccurrence _ (.inl ⟨rfl, rfl⟩) (.line .start id))
      · exact .start
    · exact .start
    · exact .start
  · exact .start

/-! ## Line access, timers and the lane port -/

theorem attemptStart_reach (n : Nat) : Reach (.attemptStart n) s (attemptStart n s) := by
  unfold attemptStart
  split
  · exact .start
  · exact .refresh (.attempts (.inr (.inr (.inl ⟨n, rfl⟩))) n _ .start)

theorem ownFrameCompletion_reach : Reach .ownFrameCompletion s (ownFrameCompletion s) := by
  unfold ownFrameCompletion
  split
  · exact .start
  · dsimp only
    split
    · refine .refresh ?_
      split
      · exact .changeItem _ (fun _ => rfl) (.access _ (.line .start id))
      · exact .access _ (.line .start id)
      · exact .access _ (.line .start id)
    · exact .start

theorem collision_reach : Reach .collision s (collision s) := by
  unfold collision
  split
  · exact .access _ .start
  · exact .start

theorem jamEnd_reach : Reach .jamEnd s (jamEnd s) := by
  unfold jamEnd
  dsimp only
  split
  · refine .refresh ?_
    split
    · exact .endAttempt _ (.access _ .start)
    · exact .access _ .start
  · exact .start

theorem deadlineExpiry_reach (tag : Byte) : Reach (.deadlineExpiry tag) s (deadlineExpiry tag s) := by
  unfold deadlineExpiry
  split
  · exact .start
  · rename_i it _
    split
    · refine .refresh ?_
      unfold expireDeadline
      cases it.stage with
      | inquiring => exact .decideItem _ _ _ (.leaveInquiry _ _ .start)
      | queued => exact .decideItem _ _ _ (.access _ .start)
      | onLine => exact .access _ .start
      | settling => exact .decideItem _ _ _ .start
      | decided => exact .start
    · exact .start

theorem settleExpiry_reach (tag : Byte) : Reach (.settleExpiry tag) s (settleExpiry tag s) := by
  unfold settleExpiry
  split
  · exact .start
  · split
    · exact .refresh (.decideItem _ _ _ .start)
    · exact .start

theorem inquiryWindowExpiry_reach (k : TitleKey) : Reach (.inquiryWindowExpiry k) s (inquiryWindowExpiry k s) := by
  unfold inquiryWindowExpiry
  split
  · exact .start
  · split
    · exact .refresh (.closeToQueued _ (.tally .start (.certain k rfl rfl)))
    · exact .start

theorem answerHoldOffExpiry_reach (l : Lane) (k : TitleKey) :
    Reach (.answerHoldOffExpiry l k) s (answerHoldOffExpiry l k s) := by
  unfold answerHoldOffExpiry
  split
  · exact .refresh (.access _ (.fewerAnswers (Nat.le_of_eq (List.length_map ..)) .start))
  · exact .start

theorem correctionHoldOffExpiry_reach (l : Lane) (q : Byte) :
    Reach (.correctionHoldOffExpiry l q) s (correctionHoldOffExpiry l q s) := by
  unfold correctionHoldOffExpiry
  split
  · exact .start
  · rename_i x hx
    have hmem : x ∈ s.claim.corrections := List.mem_of_find?_eq_some hx
    split
    · refine .fewerCorrections rfl ?_ .start
      have hpos := List.length_pos_of_mem hmem
      simp only [List.length_append, List.length_erase_of_mem hmem, List.length_singleton]
      omega
    · split
      · exact .refresh (.access _ (.fewerCorrections rfl (Nat.le_of_eq (List.length_replace ..)) .start))
      · exact .start

theorem greetingRequeueExpiry_reach : Reach .greetingRequeueExpiry s (greetingRequeueExpiry s) := by
  unfold greetingRequeueExpiry
  split
  · exact .refresh (.access _ (.claim .start rfl id))
  · exact .start

theorem dwellClockTick_reach (b : Bool) : Reach (.dwellClockTick b) s (dwellClockTick b s) := by
  unfold dwellClockTick
  split
  · refine .items lowerDeadline b .start fun it => ?_
    unfold lowerDeadline
    split <;> rfl
  · simpa using Reach.items (c := .dwellClockTick b) id b .start fun _ => rfl

theorem requestComplete_reach : Reach .requestComplete s (requestComplete s) := by
  unfold requestComplete
  split
  · exact .start
  · rename_i rest _
    have handed : Reach .requestComplete s (s.setPort { s.port with complete := rest }) :=
      .assemble .start rfl rfl rfl
    dsimp only
    split
    · rename_i hroom
      exact .buffered handed hroom rfl rfl rfl
    · exact (handed.occur _ _).refresh

end

/-! ## Every command -/

/-- Every command but the two resets is a run of the kinds of change. -/
theorem exec_reach {c : Instr} {s t : State} (h : exec c s = .next t) (hrise : ∀ l q o, c ≠ .powerGoodRise l q o)
    (hreset : c ≠ .laneReset) : Reach c s t := by
  cases c
  case powerGoodRise l q o => exact absurd rfl (hrise l q o)
  case laneReset => exact absurd rfl hreset
  all_goals cases h
  case powerGoodFall => exact reach_powered (.powerOff rfl)
  case requestComplete => exact reach_powered (requestComplete_reach s)
  case requestGapTimeout | lanePortFramingError | requestCharacterReceived =>
    exact reach_powered (.assemble .start rfl rfl rfl)
  case unknownRequest | readStatus | readRoster =>
    exact reach_serve fun r rest hs _ _ => .answer hs _ _ .start rfl
  case present => exact present_reach s
  case configureTimes => exact configureTimes_reach s
  case configureClass => exact configureClass_reach s
  case configureRange => exact configureRange_reach s
  case configureMask =>
    exact reach_serve fun r rest hs _ hst =>
      .answer hs _ _ (.cond .start (.mask _ rfl (configureState_iff.1 hst))) rfl
  case configureStopRouting =>
    exact reach_serve fun r rest hs _ hst =>
      .refresh (.answer hs _ _ (.cond .start (.routing _ rfl (configureState_iff.1 hst))) rfl)
  case configureAutomaticEnd =>
    exact reach_serve fun r rest hs _ hst =>
      .answer hs _ _ (.cond .start (.autoEnd _ rfl (configureState_iff.1 hst))) rfl
  case commence => exact commence_reach s
  case pause => exact pause_reach s
  case resume => exact resume_reach s
  case clearWork => exact clearWork_reach s
  case loadWatchEntry =>
    exact reach_serve fun r rest hs _ _ => .answer hs _ _ (.load _ _ .start rfl) rfl
  case readEntry => exact readEntry_reach s
  case readItem =>
    refine reach_serve fun r rest hs _ _ => ?_
    split <;> exact .answer hs _ _ .start rfl
  case readCondition => exact readCondition_reach s
  case ackAttention => exact ackAttention_reach s
  case endAttention => exact endAttention_reach s
  case clearConditions =>
    exact reach_serve fun r rest hs _ _ => .answer hs _ _ (.cond .start (.clearFlags _ rfl)) rfl
  case outputRecordSent => exact reach_powered (.sent .start rfl rfl rfl rfl)
  case dispositionRelease => exact reach_powered (.refresh (.releaseItems .start))
  case headerReceived => exact headerReceived_reach s _ _
  case dockFramingError => exact dockFramingError_reach s
  case lineBreak => exact lineBreak_reach s
  case truncation => exact truncation_reach s
  case discardConfirmed => exact discardConfirmed_reach s
  case peerFrameComplete => exact peerFrameComplete_reach s
  case peerClaim => exact peerClaim_reach s
  case peerCorrection => exact peerCorrection_reach s
  case peerAnswer => exact peerAnswer_reach s
  case peerInquiry => exact peerInquiry_reach s
  case peerGreeting => exact reach_handleFrame fun f => .occur _ _ (.setRecord _ _ (.line .start id))
  case duplicateLane => exact duplicateLane_reach s
  case ownClaimApplied => exact ownClaim_reach s
  case ownCorrectionApplied => exact ownCorrection_reach s
  case ownAnswerMerged => exact ownAnswer_reach s
  case ownInquiryHandled => exact reach_handleFrame fun f => .inquiry (.line .start id) id
  case ownGreetingHandled => exact ownGreeting_reach s
  case attemptStart => exact attemptStart_reach s _
  case ownFrameCompletion => exact ownFrameCompletion_reach s
  case collision => exact collision_reach s
  case jamEnd => exact jamEnd_reach s
  case deadlineExpiry => exact reach_powered (deadlineExpiry_reach s _)
  case settleExpiry => exact reach_powered (settleExpiry_reach s _)
  case inquiryWindowExpiry => exact reach_powered (inquiryWindowExpiry_reach s _)
  case answerHoldOffExpiry => exact reach_powered (answerHoldOffExpiry_reach s _ _)
  case correctionHoldOffExpiry => exact reach_powered (correctionHoldOffExpiry_reach s _ _)
  case greetingRequeueExpiry => exact reach_powered (greetingRequeueExpiry_reach s)
  case dwellClockTick => exact reach_powered (dwellClockTick_reach s _)
  case payloadCharacterReceived => exact payloadCharacterReceived_reach s _ _
  case startBitSeen =>
    refine reach_powered ?_
    unfold startBitSeen
    split
    · exact .line .start id
    · exact .start
  case breakEnd =>
    refine reach_powered ?_
    unfold breakEnd
    split
    · exact .lineIdle .start
    · exact .start
  case highLineWaitEnd =>
    refine reach_powered ?_
    unfold highLineWaitEnd
    split
    · exact .lineIdle .start
    · exact .start

/-! ## Every step -/

/-- A reference period is a run of such changes too, whatever the command. -/
theorem tick_reach (c : Instr) (s : State) : Reach c s (tick s) := by
  have timers : Reach c s (tickTimers s) := by
    unfold tickTimers
    split
    · exact .fewerCorrections rfl (Nat.le_of_eq (List.length_map ..))
        (.fewerAnswers (Nat.le_of_eq (List.length_map ..)) (.items _ s.arrival.belt .start fun _ => rfl))
    · exact .start
  exact .pending _ (.clock _ (.assemble (.access _ (.line timers id)) rfl rfl rfl))

theorem idleStep_reach (c : Instr) (s : State) : Reach c s (idleStep s) := by
  unfold idleStep
  split
  · split
    · exact .pending _ .start
    · exact tick_reach c s
  · exact .start

/-- What a step keeps: what both resets establish or keep and every other command keeps. -/
theorem step_keeps {P : State → Prop} {s t : State} (hs : P s) (h : step s = .next t)
    (hpending : ∀ x, P (s.setPending x))
    (hrise : ∀ (u : State) l q o, P (powerUp l q o u)) (hreset : ∀ u, P u → P (laneReset u))
    (hreach : ∀ (c : Instr) (u v : State), P u → Reach c u v → P v) : P t := by
  unfold step at h
  split at h
  · rename_i c rest _
    have hu : P (s.setPending rest) := hpending rest
    by_cases hc : ∀ l q o, c ≠ .powerGoodRise l q o
    · by_cases hl : c = .laneReset
      · subst hl
        cases h
        exact powered_keeps hu fun _ => hreset _ hu
      · exact hreach c _ _ hu (exec_reach h hc hl)
    · simp only [ne_eq, not_forall, not_not] at hc
      obtain ⟨l, q, o, rfl⟩ := hc
      cases h
      exact hrise _ l q o
  · cases h
    exact hreach .startBitSeen _ _ hs (idleStep_reach _ s)

end Sys2Proof.Machine
end

section
/-! Proofs about the invariants of the condition unit, the tally and the arrival queue: what each kind of change keeps. -/

namespace Sys2Proof.Machine

/-! ## The condition unit (9.1, R165, R168) -/

theorem has_or (a b : CondSet) (c : Condition) : has (a ||| b) c = (has a c || has b c) := BitVec.getLsbD_or

/-- A condition that is in any of the four sets. -/
def ConditionUnit.holds (u : ConditionUnit) (c : Condition) : Prop :=
  has u.recorded c ∨ has u.deferred c ∨ has u.pending c ∨ has u.inService c

section
variable {u v : ConditionUnit}

/-- With the details kept, a unit whose sets hold nothing new stays sound. -/
theorem ConditionUnit.sound.of_fewer (h : u.sound) (hdetails : v.details = u.details) (hdisjoint : v.disjoint)
    (hholds : ∀ c, v.holds c → u.holds c) : v.sound := by
  obtain ⟨-, hlen, hnames, hfilled⟩ := h
  have hdetail : v.detail = u.detail := by
    funext c
    rw [ConditionUnit.detail, hdetails]
    rfl
  exact ⟨hdisjoint, hdetails ▸ hlen, fun c d => hdetail ▸ hnames c d, fun c hc => hdetail ▸ hfilled c (hholds c hc)⟩

/-- After an occurrence its detail is filled and names the condition, unless the condition was in a set already and its
detail is marked again (R168). -/
theorem takeAction_detail_self (hlen : u.details.length = 16) (c : Condition) (d : Detail) (a : Action) :
    (∃ x, (u.takeAction c d a).detail c = some x ∧ x.condition = c) ∨
      (u.takeAction c d a = u.setAgain c ∧ u.holds c) := by
  have fresh (w : ConditionUnit) (hw : w.details = u.details) :
      ∃ x, (w.latch c d).detail c = some x ∧ x.condition = c :=
    ⟨_, detail_latch_self w c d (hw ▸ hlen), rfl⟩
  unfold ConditionUnit.takeAction
  split
  · rename_i hwaits
    rcases Bool.or_eq_true_iff.1 hwaits with hd | hp
    · exact .inr ⟨rfl, .inr (.inl hd)⟩
    · exact .inr ⟨rfl, .inr (.inr (.inl hp))⟩
  · split
    · rename_i hserved
      cases a with
      | record => exact .inr ⟨rfl, .inr (.inr (.inr hserved))⟩
      | defer | notify | halt => exact .inl (fresh _ rfl)
    · cases a with
      | record =>
        dsimp only
        split
        · rename_i hrecorded
          exact .inr ⟨rfl, .inl hrecorded⟩
        · exact .inl (fresh _ rfl)
      | defer | notify | halt => exact .inl (fresh _ rfl)

theorem occurrence_holds_ne {c x : Condition} (hx : x ≠ c) (d : Detail) (a : Action)
    (h : (u.occurrence c d a).holds x) : u.holds x := by
  have hne : ¬ c = x := fun e => hx e.symm
  unfold ConditionUnit.holds at *
  rw [occurrence_recorded, occurrence_inService] at h
  rcases occurrence_sets u c d a with ⟨e1, e2⟩ | ⟨-, -, ⟨e1, e2⟩ | ⟨-, e1, e2⟩⟩ <;>
    simpa [e1, e2, hne] using h

theorem occurrence_details_length (c : Condition) (d : Detail) (a : Action) :
    (u.occurrence c d a).details.length = u.details.length := by
  change (u.takeAction c d a).details.length = u.details.length
  rcases takeAction_cases u c d a with h | h | h | h <;> rw [h]
  · exact List.length_modify ..
  · exact List.length_set ..
  · exact List.length_set ..
  · exact List.length_set ..

theorem ConditionUnit.sound.occurrence (h : u.sound) (c : Condition) (d : Detail) (a : Action) :
    (u.occurrence c d a).sound := by
  obtain ⟨hdisjoint, hlen, hnames, hfilled⟩ := h
  have self : ∃ x, (u.occurrence c d a).detail c = some x ∧ x.condition = c := by
    rcases takeAction_detail_self hlen c d a with hx | ⟨hagain, hc⟩
    · exact hx
    · obtain ⟨x, hx⟩ := Option.isSome_iff_exists.1 (hfilled c hc)
      refine ⟨{ x with again := true }, ?_, hnames c x hx⟩
      change (u.takeAction c d a).detail c = _
      rw [hagain, detail_setAgain_self, hx]
      rfl
  obtain ⟨x, hx, hxc⟩ := self
  refine ⟨occurrence_disjoint c d a hdisjoint, (occurrence_details_length c d a).trans hlen, fun k y hy => ?_,
    fun k hk => ?_⟩
  · by_cases hkc : k = c
    · subst hkc
      exact Option.some.inj (hx.symm.trans hy) ▸ hxc
    · exact hnames k y (detail_occurrence_ne u d a hkc ▸ hy)
  · by_cases hkc : k = c
    · subst hkc
      exact hx ▸ rfl
    · exact detail_occurrence_ne u d a hkc ▸ hfilled k (occurrence_holds_ne hkc d a hk)

theorem CondMove.sound {c : Instr} {st : StationState} (h : u.sound) (m : CondMove c st u v) : v.sound := by
  have ⟨⟨hpending, hserved⟩, _⟩ := h
  cases m with
  | releaseDeferred =>
    refine h.of_fewer rfl releaseDeferred_disjoint fun c hc => ?_
    simp only [ConditionUnit.holds, ConditionUnit.releaseDeferred, has_or, has_zero, Bool.or_eq_true] at *
    tauto
  | clearSets _ =>
    refine h.of_fewer rfl clearSets_disjoint fun c hc => ?_
    simp only [ConditionUnit.holds, ConditionUnit.clearSets, has_zero, Bool.false_eq_true, or_self] at hc
  | acknowledge hk =>
    rename_i k
    have hhas : has u.pending k = true := highest_has hk
    refine h.of_fewer rfl ⟨disjoint_takeFrom_right hpending, ?_⟩ fun c hc => ?_
    · dsimp only [ConditionUnit.acknowledge]
      split
      · exact hserved
      · exact disjoint_addTo_right hserved (disjoint_has hpending hhas)
    · by_cases hkc : k = c
      · exact hkc ▸ .inr (.inr (.inl hhas))
      · cases hauto : u.autoEnd <;>
          simp only [ConditionUnit.holds, ConditionUnit.acknowledge, hauto, Bool.false_eq_true, if_true, if_false,
            has_takeFrom, has_addTo, beq_eq_false_iff_ne.2 hkc, Bool.or_false, Bool.and_eq_true] at * <;>
          tauto
  | endService k =>
    refine h.of_fewer rfl ⟨hpending, disjoint_takeFrom_right hserved⟩ fun c hc => ?_
    simp only [ConditionUnit.holds, has_takeFrom, Bool.and_eq_true] at *
    tauto
  | clearFlags m _ =>
    refine h.of_fewer rfl ⟨disjoint_mask_left hpending, disjoint_mask_left hserved⟩ fun c hc => ?_
    simp only [ConditionUnit.holds, ConditionUnit.clearFlags, has_andNot, Bool.and_eq_true] at *
    tauto
  | mask | routing | autoEnd => exact h

end

theorem sound_of_no_flags {u : ConditionUnit} (hr : u.recorded = 0) (hd : u.deferred = 0) (hp : u.pending = 0)
    (hs : u.inService = 0) (hdetails : u.details = List.replicate 16 none) : u.sound := by
  have hempty : ∀ c, u.detail c = none := fun c => by
    rw [ConditionUnit.detail, hdetails]
    cases c <;> rfl
  refine ⟨⟨by simp [hd], by simp [hd]⟩, by simp [hdetails], fun c d hc => ?_, fun c hc => ?_⟩
  · simp [hempty] at hc
  · simp only [hr, hd, hp, hs, has_zero, Bool.false_eq_true, or_self] at hc

theorem occur_sound {s : State} (k : Condition) (d : Detail) (h : s.cond.sound) : (occur k d s).cond.sound := by
  unfold occur
  split
  · exact h
  · exact h.occurrence _ _ _

theorem Reach.cond_sound {c : Instr} {s t : State} (hs : s.cond.sound) (h : Reach c s t) : t.cond.sound := by
  induction h with
  | start => exact hs
  | occur k d _ ih => exact occur_sound k d ih
  | cond _ m ih => exact m.sound ih
  | refresh _ ih => exact ih
  | powerOff => exact hs
  | append _ _ _ _ _ _ _ ih => exact ih
  | reply _ _ _ _ _ _ ih => exact ih
  | _ => assumption

/-! ## The tally (R1, R10, R11) -/

/-- The entries of a sound table. -/
def SoundTable (t : List Entry) : Prop :=
  t.length ≤ 512 ∧ (t.map Entry.key).Nodup ∧ ∀ e ∈ t, e.count ≤ 63 ∧ (e.count = 0 → 1 ≤ e.pins)

theorem tally_sound_iff {t : Tally} : t.sound ↔ SoundTable t.table := Iff.rfl

section
variable {t room : List Entry} {k : TitleKey} {e : Entry}

theorem mem_of_findEntry (h : findEntry t k = some e) : e ∈ t := List.mem_of_find?_eq_some h

theorem not_mem_keys_of_findEntry (h : findEntry t k = none) : k ∉ t.map Entry.key := fun hk => by
  obtain ⟨e, he, rfl⟩ := List.mem_map.1 hk
  simpa using List.find?_eq_none.1 h e he

theorem SoundTable.sublist {u : List Entry} (h : SoundTable t) (hu : u.Sublist t) : SoundTable u := by
  obtain ⟨hlen, hkeys, hcounts⟩ := h
  exact ⟨Nat.le_trans hu.length_le hlen, hkeys.sublist (hu.map _), fun e he => hcounts e (hu.subset he)⟩

/-- Entries changed in place, each keeping its key and its soundness. -/
theorem SoundTable.map {f : Entry → Entry} (h : SoundTable t) (hkey : ∀ e, (f e).key = e.key)
    (hf : ∀ e ∈ t, (f e).count ≤ 63 ∧ ((f e).count = 0 → 1 ≤ (f e).pins)) : SoundTable (t.map f) := by
  obtain ⟨hlen, hkeys, -⟩ := h
  refine ⟨(List.length_map f).symm ▸ hlen, ?_, List.forall_mem_map.2 hf⟩
  rwa [List.map_map, show Entry.key ∘ f = Entry.key from funext hkey]

/-- A new entry in front of a table that has room and does not hold its title. -/
theorem SoundTable.cons (h : SoundTable t) (hroom : t.length < 512) (hnew : e.key ∉ t.map Entry.key)
    (hcount : e.count ≤ 63) (hpins : e.count = 0 → 1 ≤ e.pins) : SoundTable (e :: t) := by
  obtain ⟨-, hkeys, hcounts⟩ := h
  refine ⟨hroom, List.nodup_cons.2 ⟨hnew, hkeys⟩, fun x hx => ?_⟩
  rcases List.mem_cons.1 hx with rfl | hx
  · exact ⟨hcount, hpins⟩
  · exact hcounts x hx

theorem length_filter_key_lt (h : e ∈ t) : (t.filter fun x => x.key ≠ e.key).length < t.length :=
  List.length_filter_lt_length_iff_exists.2 ⟨e, h, by simp⟩

/-- A touched entry goes in front; its fields may change as long as it stays sound. -/
theorem SoundTable.putFirst {x : Entry} (h : SoundTable t) (he : e ∈ t) (hkey : x.key = e.key) (hcount : x.count ≤ 63)
    (hpins : x.count = 0 → 1 ≤ x.pins) : SoundTable (putFirst t x) := by
  have ⟨hlen, _, _⟩ := h
  rw [putFirst_eq, hkey]
  refine (h.sublist List.filter_sublist).cons (Nat.lt_of_lt_of_le (length_filter_key_lt he) hlen) ?_ hcount hpins
  rw [hkey]
  simp [List.mem_map, List.mem_filter]

theorem makeRoom_sublist {r : Rules} (h : makeRoom r t = .ok room) (hlen : t.length ≤ 512) :
    room.Sublist t ∧ room.length < 512 := by
  unfold makeRoom at h
  split at h
  · rename_i hroom
    cases h
    exact ⟨.refl _, hroom⟩
  · rename_i hfull
    simp only [Config.tallySize, Nat.not_lt] at hfull
    split at h
    · cases h
      refine ⟨List.eraseIdx_sublist .., ?_⟩
      rw [List.length_eraseIdx_of_lt (by omega)]
      omega
    · cases h
    · cases h
      refine ⟨List.take_sublist .., ?_⟩
      simp only [List.length_take, Config.tallySize]
      omega

/-- A created entry in the room that an eviction makes. -/
theorem SoundTable.create {r : Rules} (h : SoundTable t) (hroom : makeRoom r t = .ok room) (hnew : findEntry t e.key = none)
    (hcount : e.count ≤ 63) (hpins : e.count = 0 → 1 ≤ e.pins) : SoundTable (e :: room) := by
  have ⟨hlen, _, _⟩ := h
  obtain ⟨hsub, hlt⟩ := makeRoom_sublist hroom hlen
  exact (h.sublist hsub).cons hlt (fun hk => not_mem_keys_of_findEntry hnew ((hsub.map _).subset hk)) hcount hpins

theorem readCount_le (b : Byte) : readCount b ≤ 63 := Nat.min_le_right _ _

theorem claimResult_bounds (c b : Nat) : 1 ≤ claimResult c b ∧ claimResult c b ≤ 63 := by
  simp only [claimResult, Config.maxCount]
  omega

end

/-! ### The answers of the table's operations -/

section
variable {r : Rules} {t : List Entry}

theorem touchEntry_cases {k : TitleKey} {x : List Entry × Option Entry} (h : touchEntry t k = .ok x) :
    (∃ e, findEntry t k = some e ∧ e.parityOk = true ∧ x = (putFirst t e, some e)) ∨
      (findEntry t k = none ∧ x = (t, none)) := by
  unfold touchEntry at h
  split at h
  · rename_i e hf
    split at h
    · cases h
    · rename_i hp
      cases h
      exact .inl ⟨e, hf, by simpa using hp, rfl⟩
  · rename_i hf
    cases h
    exact .inr ⟨hf, rfl⟩

theorem lookup_cases {k : TitleKey} {x : List Entry × Option Certainty} (h : lookup r t k = .ok x) :
    (∃ e, findEntry t k = some e ∧ x = (putFirst t { e with pins := e.pins + 1 }, some e.certainty)) ∨
      ∃ room, findEntry t k = none ∧ makeRoom r t = .ok room ∧
        x = ({ key := k, count := 0, refMass := none, certainty := .unsure, lastClaim := none, pins := 1 } :: room,
          none) := by
  unfold lookup at h
  split at h
  · rename_i e hf
    split at h
    · cases h
    · cases h
      exact .inl ⟨e, hf, rfl⟩
  · rename_i hf
    cases hroom : makeRoom r t with
    | error bad => simp [hroom, bind, Except.bind] at h
    | ok room =>
      simp only [hroom, bind, Except.bind] at h
      cases h
      exact .inr ⟨room, hf, rfl, rfl⟩

theorem applyClaim_cases {lane : Lane} {f : ClaimFields} {a : Applied} (h : applyClaim r t lane f = .ok a) :
    (∃ e, findEntry t f.key = some e ∧ a.table = putFirst t
        { e with count := claimResult e.count f.basis, lastClaim := some (lane, f.seq)
                 refMass := adoptMass e.refMass f.mass } ∧
        a.counts = some (e.count, claimResult e.count f.basis) ∧ a.held = true) ∨
      ∃ room, findEntry t f.key = none ∧ makeRoom r t = .ok room ∧
        a.table = { key := f.key, count := claimResult 0 f.basis, refMass := f.mass, certainty := .unsure,
                    lastClaim := some (lane, f.seq), pins := 0 } :: room ∧
        a.counts = some (0, claimResult 0 f.basis) ∧ a.held = false := by
  unfold applyClaim at h
  split at h
  · rename_i e hf
    split at h
    · cases h
    · cases h
      exact .inl ⟨e, hf, rfl, rfl, rfl⟩
  · rename_i hf
    cases hroom : makeRoom r t with
    | error bad => simp [hroom, bind, Except.bind] at h
    | ok room =>
      simp only [hroom, bind, Except.bind] at h
      cases h
      exact .inr ⟨room, hf, rfl, rfl, rfl, rfl⟩

theorem applyCorrection_cases {f : CorrectionFields} {a : Applied} (h : applyCorrection r t f = .ok a) :
    (∃ e, findEntry t f.key = some e ∧ a.table = putFirst t { e with count := max e.count f.value }) ∨
      (findEntry t f.key = none ∧ f.value = 0 ∧ a.table = t) ∨
      ∃ room, findEntry t f.key = none ∧ f.value ≠ 0 ∧ makeRoom r t = .ok room ∧
        a.table = { key := f.key, count := f.value, refMass := none, certainty := .unsure, lastClaim := none,
                    pins := 0 } :: room := by
  unfold applyCorrection at h
  split at h
  · rename_i e hf
    split at h
    · cases h
    · cases h
      exact .inl ⟨e, hf, rfl⟩
  · rename_i hf
    split at h
    · rename_i hv
      cases h
      exact .inr (.inl ⟨hf, hv, rfl⟩)
    · rename_i hv
      cases hroom : makeRoom r t with
      | error bad => simp [hroom, bind, Except.bind] at h
      | ok room =>
        simp only [hroom, bind, Except.bind] at h
        cases h
        exact .inr (.inr ⟨room, hf, hv, rfl, rfl⟩)

theorem mergeAnswer_cases {f : AnswerFields} {a : Applied} (h : mergeAnswer t f = .ok a) :
    (∃ e, findEntry t f.key = some e ∧
        a.table = putFirst t { e with count := max e.count f.count, refMass := adoptMass e.refMass f.refMass }) ∨
      (findEntry t f.key = none ∧ a.table = t) := by
  unfold mergeAnswer at h
  split at h
  · rename_i e hf
    split at h
    · cases h
    · cases h
      exact .inl ⟨e, hf, rfl⟩
  · rename_i hf
    cases h
    exact .inr ⟨hf, rfl⟩

theorem makeCertain_cases (t : List Entry) (k : TitleKey) :
    (∃ e, findEntry t k = some e ∧ makeCertain t k = putFirst t { e with certainty := .certain }) ∨
      makeCertain t k = t := by
  unfold makeCertain
  split
  · exact .inl ⟨_, ‹_›, rfl⟩
  · exact .inr rfl

end

/-! ### Soundness under each move -/

theorem SoundTable.unpin {t : List Entry} (h : SoundTable t) (k : TitleKey) : SoundTable (unpin t k) := by
  obtain ⟨hlen, hkeys, hcounts⟩ := h
  have hsub : (Machine.unpin t k).Sublist (changeEntry t k fun e => { e with pins := e.pins - 1 }) := List.filter_sublist
  have hmap : (changeEntry t k fun e => { e with pins := e.pins - 1 }).map Entry.key = t.map Entry.key := by
    rw [changeEntry, List.map_map]
    refine List.map_congr_left fun e _ => ?_
    simp only [Function.comp_apply]
    split <;> rfl
  refine ⟨Nat.le_trans hsub.length_le (by simpa [changeEntry] using hlen), (hmap ▸ hkeys).sublist (hsub.map _),
    fun x hx => ?_⟩
  obtain ⟨hmem, hkeep⟩ := List.mem_filter.1 hx
  obtain ⟨e, he, rfl⟩ := List.mem_map.1 hmem
  obtain ⟨hle, hpins⟩ := hcounts e he
  by_cases hk : e.key = k
  · simp only [hk, beq_self_eq_true, if_true, Bool.true_and, Bool.not_eq_true', Bool.and_eq_false_imp, beq_iff_eq,
      beq_eq_false_iff_ne] at hkeep ⊢
    exact ⟨hle, fun h0 => Nat.one_le_iff_ne_zero.2 (hkeep h0)⟩
  · simp only [beq_eq_false_iff_ne.2 hk, Bool.false_eq_true, if_false]
    exact ⟨hle, hpins⟩

theorem TallyMove.sound {c : Instr} {r : Rules} {o t u : Tally} (h : t.sound) (m : TallyMove c r o t u) : u.sound := by
  rw [tally_sound_iff] at *
  have ⟨_, _, hcounts⟩ := h
  cases m with
  | unpin k => exact h.unpin k
  | touch hok =>
    rcases touchEntry_cases hok with ⟨e, hf, -, heq⟩ | ⟨-, heq⟩ <;> cases heq
    · have he := mem_of_findEntry hf
      exact h.putFirst he rfl (hcounts e he).1 (hcounts e he).2
    · exact h
  | answer hok =>
    rename_i p _
    rcases mergeAnswer_cases hok with ⟨e, hf, heq⟩ | ⟨-, heq⟩ <;> simp only [heq]
    · have he := mem_of_findEntry hf
      have hle : (readAnswer p).count ≤ 63 := readCount_le _
      refine h.putFirst he rfl (Nat.max_le.2 ⟨(hcounts e he).1, hle⟩) fun h0 => (hcounts e he).2 ?_
      exact Nat.le_zero.1 (h0 ▸ Nat.le_max_left _ _)
    · exact h
  | lookup _ hok =>
    rcases lookup_cases hok with ⟨e, hf, heq⟩ | ⟨room, hf, hroom, heq⟩ <;> cases heq
    · have he := mem_of_findEntry hf
      exact h.putFirst he rfl (hcounts e he).1 fun _ => Nat.le_add_left 1 e.pins
    · exact h.create hroom hf (Nat.zero_le _) fun _ => Nat.le_refl 1
  | claim _ hok =>
    rcases applyClaim_cases hok with ⟨e, hf, heq, -⟩ | ⟨room, hf, hroom, heq, -⟩ <;> simp only [heq]
    · obtain ⟨hpos, hle⟩ := claimResult_bounds e.count (readClaim _).basis
      exact h.putFirst (mem_of_findEntry hf) rfl hle fun h0 => absurd hpos (by dsimp only at h0; omega)
    · obtain ⟨hpos, hle⟩ := claimResult_bounds 0 (readClaim _).basis
      exact h.create hroom hf hle fun h0 => absurd hpos (by dsimp only at h0; omega)
  | correction _ hok =>
    have hle : ∀ p, (readCorrection p).value ≤ 63 := fun p => readCount_le _
    rcases applyCorrection_cases hok with ⟨e, hf, heq⟩ | ⟨-, -, heq⟩ | ⟨room, hf, hv, hroom, heq⟩ <;> simp only [heq]
    · have he := mem_of_findEntry hf
      refine h.putFirst he rfl (Nat.max_le.2 ⟨(hcounts e he).1, hle _⟩) fun h0 => (hcounts e he).2 ?_
      exact Nat.le_zero.1 (h0 ▸ Nat.le_max_left _ _)
    · exact h
    · exact h.create hroom hf (hle _) fun h0 => absurd h0 hv
  | certain k _ _ =>
    rcases makeCertain_cases t.table k with ⟨e, hf, heq⟩ | heq <;> simp only [heq]
    · have he := mem_of_findEntry hf
      exact h.putFirst he rfl (hcounts e he).1 (hcounts e he).2
    · exact h
  | epoch => exact h.map (fun _ => rfl) hcounts

theorem Reach.tally_sound {c : Instr} {s t : State} (hs : s.tally.sound) (h : Reach c s t) : t.tally.sound := by
  induction h with
  | start | powerOff => exact hs
  | tally _ m ih => exact m.sound ih
  | occur k d _ ih => exact (occur_tally _ k d).symm ▸ ih
  | refresh _ ih => exact ih
  | append _ _ _ _ _ _ _ ih => exact ih
  | reply _ _ _ _ _ _ ih => exact ih
  | _ => assumption

/-! ## Release from the head (R49) -/

theorem dispositionCount_append (out : List OutRecord) (l : List Item) :
    dispositionCount (out ++ l.map dispositionRecord) = dispositionCount out + l.length := by
  have : l.countP (OutRecord.isDisposition ∘ dispositionRecord) = l.length := List.countP_eq_length.2 fun _ _ => rfl
  simp only [dispositionCount, List.countP_append, List.countP_map, this]

theorem replyCount_append (out : List OutRecord) (l : List Item) :
    replyCount (out ++ l.map dispositionRecord) = replyCount out := by
  have : l.countP (OutRecord.isReply ∘ dispositionRecord) = 0 :=
    List.countP_eq_zero.2 fun _ _ => by simp [OutRecord.isReply, dispositionRecord]
  simp only [replyCount, List.countP_append, List.countP_map, this, Nat.add_zero]

/-- What a release sends and what it leaves. -/
theorem releaseHead_spec (items : List Item) : ∀ out : List OutRecord, ∃ gone,
    items = gone ++ (releaseHead items out).1 ∧ (releaseHead items out).2 = out ++ gone.map dispositionRecord ∧
      (∀ it ∈ gone, it.stage = .decided) ∧ (gone ≠ [] → dispositionCount out + gone.length ≤ 8) ∧
      ∀ it ∈ (releaseHead items out).1.head?, it.stage ≠ .decided ∨ 8 ≤ dispositionCount out + gone.length := by
  induction items with
  | nil => exact fun out => ⟨[], by simp [releaseHead]⟩
  | cons it rest ih =>
    intro out
    unfold releaseHead
    split
    · rename_i hc
      obtain ⟨hstage, hcount⟩ := Bool.and_eq_true_iff.1 hc
      have hdecided : it.stage = .decided := beq_iff_eq.1 hstage
      have hroom : dispositionCount out < 8 := of_decide_eq_true hcount
      obtain ⟨gone, hitems, hout, hgone, hfull, hstay⟩ := ih (out ++ [dispositionRecord it])
      have hcount : dispositionCount (out ++ [dispositionRecord it]) = dispositionCount out + 1 :=
        dispositionCount_append out [it]
      refine ⟨it :: gone, by rw [List.cons_append, ← hitems], by simpa using hout, ?_, fun _ => ?_, fun x hx => ?_⟩
      · exact List.forall_mem_cons.2 ⟨hdecided, hgone⟩
      · rw [List.length_cons]
        by_cases hnil : gone = []
        · simp only [hnil, List.length_nil]
          omega
        · have := hfull hnil
          omega
      · rw [List.length_cons]
        exact (hstay x hx).imp_right fun h => by omega
    · rename_i hc
      refine ⟨[], rfl, (List.append_nil _).symm, by simp, by simp, fun x hx => ?_⟩
      obtain rfl : it = x := Option.some.inj hx
      have hfull : it.stage = .decided → 8 ≤ dispositionCount out := fun hd =>
        Nat.not_lt.1 fun hlt => hc (Bool.and_eq_true_iff.2 ⟨beq_iff_eq.2 hd, decide_eq_true hlt⟩)
      exact (Decidable.em _).symm.imp_right hfull

/-! ## The arrival queue (R27, R29) -/

/-- The last `n` tags that the counter gave. -/
def lastTags (next : Byte) (n : Nat) : List Byte := (List.range n).map fun i => next - BitVec.ofNat 8 (n - i)

theorem lastTags_succ (next : Byte) (n : Nat) : lastTags (next + 1) (n + 1) = lastTags next n ++ [next] := by
  simp only [lastTags, List.range_succ, List.map_append, List.map_cons, List.map_nil]
  congr 1
  · refine List.map_congr_left fun i hi => ?_
    have hle : i < n := List.mem_range.1 hi
    rw [show n + 1 - i = (n - i) + 1 by omega, BitVec.ofNat_add]
    bv_omega
  · simp

theorem lastTags_drop (next : Byte) (n k : Nat) : (lastTags next (n + k)).drop k = lastTags next n := by
  refine List.ext_getElem (by simp [lastTags]) fun i _ _ => ?_
  simp only [lastTags, List.getElem_drop, List.getElem_map, List.getElem_range]
  congr 2
  omega

theorem lastTags_nodup (next : Byte) {n : Nat} (h : n ≤ 8) : (lastTags next n).Nodup := by
  refine List.Nodup.map_on (fun i hi j hj hij => ?_) List.nodup_range
  have hi : i < n := List.mem_range.1 hi
  have hj : j < n := List.mem_range.1 hj
  have heq : BitVec.ofNat 8 (n - i) = BitVec.ofNat 8 (n - j) := by
    simpa using congrArg (fun x => next - x) hij
  have := congrArg BitVec.toNat heq
  simp only [BitVec.toNat_ofNat] at this
  omega

theorem arrival_sound_iff {a : Arrival} :
    a.sound ↔ a.items.length ≤ 8 ∧ a.items.map Item.tag = lastTags a.nextTag a.items.length := Iff.rfl

theorem Arrival.sound.tags_nodup {a : Arrival} (h : a.sound) : (a.items.map Item.tag).Nodup := by
  obtain ⟨hlen, htags⟩ := arrival_sound_iff.1 h
  exact htags ▸ lastTags_nodup _ hlen

theorem Arrival.sound.append {a : Arrival} {it : Item} {n : Nat} (h : a.sound) (hroom : a.items.length < 8)
    (htag : it.tag = a.nextTag) :
    Arrival.sound { a with items := a.items ++ [it], nextTag := a.nextTag + 1, accepted := n } := by
  obtain ⟨-, htags⟩ := arrival_sound_iff.1 h
  refine arrival_sound_iff.2 ⟨?_, ?_⟩
  · simp only [List.length_append, List.length_singleton]
    omega
  · simp only [List.map_append, List.map_cons, List.map_nil, htags, htag, List.length_append, List.length_singleton,
      lastTags_succ]

theorem Arrival.sound.suffix {a : Arrival} {gone stay : List Item} (h : a.sound) (hitems : a.items = gone ++ stay) :
    Arrival.sound { a with items := stay } := by
  obtain ⟨hlen, htags⟩ := arrival_sound_iff.1 h
  refine arrival_sound_iff.2 ⟨?_, ?_⟩
  · have := congrArg List.length hitems
    simp only [List.length_append] at this
    dsimp only
    omega
  · have hdrop := congrArg (List.drop gone.length) htags
    rw [hitems, List.map_append, List.drop_left' (List.length_map _), List.length_append, Nat.add_comm,
      lastTags_drop] at hdrop
    exact hdrop

theorem Arrival.sound.map {a : Arrival} {f : Item → Item} {b : Bool} (h : a.sound) (hf : ∀ it, (f it).tag = it.tag) :
    Arrival.sound { a with items := a.items.map f, belt := b } := by
  obtain ⟨hlen, htags⟩ := arrival_sound_iff.1 h
  refine arrival_sound_iff.2 ⟨(List.length_map f).symm ▸ hlen, ?_⟩
  rw [List.map_map, show Item.tag ∘ f = Item.tag from funext hf, List.length_map]
  exact htags

theorem Reach.arrival_sound {c : Instr} {s t : State} (hs : s.arrival.sound) (h : Reach c s t) : t.arrival.sound := by
  induction h with
  | start | powerOff => exact hs
  | items f b _ hf ih => exact ih.map hf
  | append it _ _ _ _ hroom htag ih => exact ih.append hroom htag
  | @release u _ ih =>
    obtain ⟨gone, hitems, -⟩ := releaseHead_spec u.arrival.items u.port.output
    exact ih.suffix hitems
  | occur k d _ ih => exact (occur_arrival _ k d).symm ▸ ih
  | refresh _ ih => exact ih
  | reply _ _ _ _ _ _ ih => exact ih
  | _ => assumption

/-! ## Limits, banks and ranges (R62, R68, R94, R101, R103, R132, R153, R192, R194) -/

/-- The limits of the lane port. -/
def LanePort.withinLimits (p : LanePort) : Prop :=
  p.buffer.length ≤ 4 ∧ replyCount p.output ≤ 4 ∧ (p.clearing = true → replyCount p.output < 4) ∧
    dispositionCount p.output ≤ 8

theorem counts_append_reply (out : List OutRecord) (r : Request) (res : ResultCode) (bs : List Byte) :
    replyCount (out ++ [replyRecord r res bs]) = replyCount out + 1 ∧
      dispositionCount (out ++ [replyRecord r res bs]) = dispositionCount out := by
  simp [replyCount, dispositionCount, OutRecord.isReply, OutRecord.isDisposition, replyRecord]

theorem counts_sublist {out more : List OutRecord} (h : out.Sublist more) :
    replyCount out ≤ replyCount more ∧ dispositionCount out ≤ dispositionCount more :=
  ⟨h.countP_le, h.countP_le⟩

/-- A port that shows the same buffer, output and mark is within the same limits. -/
theorem LanePort.withinLimits.of_eq {p q : LanePort} (h : p.withinLimits) (hb : q.buffer = p.buffer)
    (ho : q.output = p.output) (hc : q.clearing = p.clearing) : q.withinLimits := by
  unfold LanePort.withinLimits at *
  rwa [hb, ho, hc]

theorem Reach.port_withinLimits {c : Instr} {s t : State} (hs : s.port.withinLimits) (h : Reach c s t) :
    t.port.withinLimits := by
  induction h with
  | start | powerOff => exact hs
  | @release u _ ih =>
    obtain ⟨hbuffer, hreplies, hclearing, hdispositions⟩ := ih
    obtain ⟨gone, -, hout, -, hroom, -⟩ := releaseHead_spec u.arrival.items u.port.output
    simp only [releaseQueue, State.setPort_port, LanePort.withinLimits, hout, replyCount_append,
      dispositionCount_append]
    refine ⟨hbuffer, hreplies, hclearing, ?_⟩
    by_cases hnil : gone = []
    · simpa [hnil] using hdispositions
    · exact hroom hnil
  | assemble _ hb ho hc ih => exact ih.of_eq hb ho hc
  | @sent u _ _ _ hb ho hc ih =>
    obtain ⟨hbuffer, hreplies, hclearing, hdispositions⟩ := ih
    obtain ⟨hr, hd⟩ := counts_sublist (List.drop_sublist 1 u.port.output)
    simp only [LanePort.withinLimits, State.setPort_port, hb, ho, hc]
    exact ⟨hbuffer, Nat.le_trans hr hreplies, fun h => Nat.lt_of_le_of_lt hr (hclearing h), Nat.le_trans hd hdispositions⟩
  | buffered _ hroom hb ho hc ih =>
    obtain ⟨-, hrest⟩ := ih
    simp only [LanePort.withinLimits, State.setPort_port, hb, ho, hc, List.length_append, List.length_singleton]
    exact ⟨hroom, hrest⟩
  | @reply u r res bs _ hclearing hroom ih =>
    obtain ⟨hbuffer, -, -, hdispositions⟩ := ih
    obtain ⟨hr, hd⟩ := counts_append_reply u.port.output r res bs
    simp only [LanePort.withinLimits, answerRequest, LanePort.produce, State.setPort_port, List.length_drop, hr, hd,
      hclearing]
    exact ⟨by omega, hroom, by simp, hdispositions⟩
  | clearing _ hroom ih =>
    obtain ⟨hbuffer, hreplies, -, hdispositions⟩ := ih
    exact ⟨hbuffer, hreplies, fun _ => hroom, hdispositions⟩
  | @cleared u _ r _ hclearing hb ho hc ih =>
    obtain ⟨hbuffer, -, hroom, hdispositions⟩ := ih
    obtain ⟨hr, hd⟩ := counts_append_reply u.port.output r .done []
    simp only [LanePort.withinLimits, State.setPort_port, hb, ho, hc, List.length_drop, hr, hd]
    exact ⟨by omega, hroom hclearing, by simp, hdispositions⟩
  | abandonClearing _ ih =>
    obtain ⟨hbuffer, hreplies, -, hdispositions⟩ := ih
    exact ⟨hbuffer, hreplies, by simp, hdispositions⟩
  | occur k d _ ih => exact (occur_port _ k d).symm ▸ ih
  | refresh _ ih => exact ih
  | append _ _ _ _ _ _ _ ih => exact ih
  | _ => assumption

/-- The pending corrections and answers and the unconfirmed discards keep their limits. -/
def State.listsWithinLimits (s : State) : Prop :=
  s.claim.corrections.length ≤ 4 ∧ s.inquiry.answers.length ≤ 4 ∧ s.line.discards.length ≤ 4

theorem Reach.listsWithinLimits {c : Instr} {s t : State} (hs : s.listsWithinLimits) (h : Reach c s t) :
    t.listsWithinLimits := by
  induction h with
  | start | powerOff => exact hs
  | claim _ _ hx ih =>
    obtain ⟨hcorrections, hanswers, hdiscards⟩ := ih
    exact ⟨hx hcorrections, hanswers, hdiscards⟩
  | inquiry _ hx ih =>
    obtain ⟨hcorrections, hanswers, hdiscards⟩ := ih
    exact ⟨hcorrections, hx hanswers, hdiscards⟩
  | line _ hx ih =>
    obtain ⟨hcorrections, hanswers, hdiscards⟩ := ih
    exact ⟨hcorrections, hanswers, hx hdiscards⟩
  | occur k d _ ih => simpa [State.listsWithinLimits] using ih
  | refresh _ ih => exact ih
  | append _ _ _ _ _ _ _ ih => exact ih
  | reply _ _ _ _ _ _ ih => exact ih
  | _ => assumption

theorem Reach.banksWhole {c : Instr} {s t : State} (hs : s.banksWhole) (h : Reach c s t) : t.banksWhole := by
  induction h with
  | start | powerOff => exact hs
  | claim _ hroster _ ih =>
    obtain ⟨hr, hrest⟩ := ih
    exact ⟨hroster.trans hr, hrest⟩
  | rules _ _ _ _ hclasses hranges ih =>
    obtain ⟨hr, hc, hg, hw⟩ := ih
    exact ⟨hr, hclasses.trans hc, hranges.trans hg, hw⟩
  | hit i _ ih =>
    obtain ⟨hr, hc, hg, hw⟩ := ih
    exact ⟨hr, hc, hg, (List.length_modify ..).trans hw⟩
  | load i w _ _ ih =>
    obtain ⟨hr, hc, hg, hw⟩ := ih
    exact ⟨hr, hc, hg, (List.length_set ..).trans hw⟩
  | occur k d _ ih => simpa [State.banksWhole] using ih
  | refresh _ ih => exact ih
  | append _ _ _ _ _ _ _ ih => exact ih
  | reply _ _ _ _ _ _ ih => exact ih
  | _ => assumption

theorem Reach.rules_inRange {c : Instr} {s t : State} (hs : s.rules.inRange) (h : Reach c s t) : t.rules.inRange := by
  induction h with
  | start | powerOff => exact hs
  | rules _ _ _ hx _ _ ih => exact hx ih
  | occur k d _ ih => exact (occur_rules _ k d).symm ▸ ih
  | refresh _ ih => exact ih
  | append _ _ _ _ _ _ _ ih => exact ih
  | reply _ _ _ _ _ _ ih => exact ih
  | _ => assumption

/-- The limits, banks and ranges that every step keeps. -/
def State.withinBounds (s : State) : Prop := s.withinLimits ∧ s.banksWhole ∧ s.rules.inRange

theorem withinLimits_iff {s : State} : s.withinLimits ↔ s.port.withinLimits ∧ s.listsWithinLimits := by
  simp only [State.withinLimits, LanePort.withinLimits, State.listsWithinLimits, and_assoc]
  rfl

theorem Reach.withinBounds {c : Instr} {s t : State} (hs : s.withinBounds) (h : Reach c s t) : t.withinBounds := by
  obtain ⟨hlimits, hbanks, hrange⟩ := hs
  obtain ⟨hport, hlists⟩ := withinLimits_iff.1 hlimits
  exact ⟨withinLimits_iff.2 ⟨h.port_withinLimits hport, h.listsWithinLimits hlists⟩, h.banksWhole hbanks,
    h.rules_inRange hrange⟩

theorem withinBounds_powerUp (l : Lane) (q : BitVec 2) (o : Bool) (s : State) : (powerUp l q o s).withinBounds := by
  have hport : LanePort.withinLimits {} := ⟨by decide, by decide, by decide, by decide⟩
  have hrange : Rules.inRange {} := ⟨by decide, by decide, by decide⟩
  exact ⟨withinLimits_iff.2 ⟨hport, Nat.zero_le 4, Nat.zero_le 4, Nat.zero_le 4⟩, ⟨rfl, rfl, rfl, rfl⟩, hrange⟩

theorem port_reset_withinLimits (p : LanePort) : p.reset.withinLimits := by
  have hlen : p.reset.output.length ≤ 1 := by
    unfold LanePort.reset
    dsimp only
    split
    · exact List.length_take_le 1 _
    · exact Nat.zero_le 1
  have hreplies : replyCount p.reset.output ≤ 1 := Nat.le_trans List.countP_le_length hlen
  have hdispositions : dispositionCount p.reset.output ≤ 1 := Nat.le_trans List.countP_le_length hlen
  exact ⟨Nat.zero_le 4, by omega, by omega, by omega⟩

/-- What LANE RESET keeps: everything in STRAP FAULT, and otherwise what its new state has. -/
theorem laneReset_keeps {P : State → Prop} {s : State} (h : P s)
    (hreset : s.station.state ≠ .strapFault → P (laneReset s)) : P (laneReset s) := by
  by_cases hs : s.station.state = .strapFault
  · rwa [laneReset, if_pos (by simp [hs])]
  · exact hreset hs

theorem laneReset_of_live {s : State} (hs : s.station.state ≠ .strapFault) :
    laneReset s = refresh
      { s with
        station := { s.station with state := .configuring }
        tally := {}
        arrival := { belt := s.arrival.belt }
        claim := {}
        inquiry := {}
        line := {}
        access := { s.access.abort s.station.rate with yield := false, placements := 0 }
        watch := List.replicate 16 {}
        cond := { mask := s.cond.mask, routing := s.cond.routing, autoEnd := s.cond.autoEnd }
        port := s.port.reset } := if_neg (by simpa using hs)

theorem withinBounds_laneReset {s : State} (h : s.withinBounds) : (laneReset s).withinBounds :=
  laneReset_keeps h fun hs => by
    obtain ⟨-, ⟨-, hclasses, hranges, -⟩, hrange⟩ := h
    rw [laneReset_of_live hs]
    exact ⟨withinLimits_iff.2 ⟨port_reset_withinLimits _, Nat.zero_le 4, Nat.zero_le 4, Nat.zero_le 4⟩,
      ⟨rfl, hclasses, hranges, rfl⟩, hrange⟩

end Sys2Proof.Machine

open Sys2Proof Sys2Proof.Machine

/-- Settles O53, by induction over what a command can do to the condition unit. -/
theorem conditionsStaySound : Obligations.ConditionsStaySound := by
  unfold Obligations.ConditionsStaySound
  intro s t hs h
  refine step_keeps (P := fun s => s.cond.sound) hs h (fun _ => hs) (fun _ _ _ _ => ?_) (fun u hu => ?_)
    fun c u v hu huv => huv.cond_sound hu
  · exact sound_of_no_flags rfl rfl rfl rfl rfl
  · refine laneReset_keeps (P := fun s => s.cond.sound) hu fun hs => ?_
    rw [laneReset_of_live hs]
    exact sound_of_no_flags rfl rfl rfl rfl rfl

/-- Settles O54, by induction over what a command can do to the tally. -/
theorem tallyStaysSound : Obligations.TallyStaysSound := by
  unfold Obligations.TallyStaysSound
  intro s t hs h
  have hempty : Tally.sound {} := ⟨by decide, by decide, by decide⟩
  refine step_keeps (P := fun s => s.tally.sound) hs h (fun _ => hs) (fun _ _ _ _ => hempty) (fun u hu => ?_)
    fun c u v hu huv => huv.tally_sound hu
  refine laneReset_keeps (P := fun s => s.tally.sound) hu fun hs => ?_
  rw [laneReset_of_live hs]
  exact hempty

/-- Settles O55, by induction over what a command can do to the queue: records are appended with the counter's tag, changed
in place, or released from the head. -/
theorem arrivalStaysSound : Obligations.ArrivalStaysSound := by
  unfold Obligations.ArrivalStaysSound
  have hempty (b : Bool) : Arrival.sound { belt := b } := ⟨by simp, by simp⟩
  refine ⟨fun s t hs h => ?_, fun s hs => hs.tags_nodup⟩
  refine step_keeps (P := fun s => s.arrival.sound) hs h (fun _ => hs) (fun u _ _ _ => hempty u.arrival.belt)
    (fun u hu => ?_) fun c u v hu huv => huv.arrival_sound hu
  refine laneReset_keeps (P := fun s => s.arrival.sound) hu fun hs => ?_
  rw [laneReset_of_live hs]
  exact hempty u.arrival.belt
end

section
/-! Proofs about POWER GOOD and the two pins: without POWER GOOD no command acts, and every command that moves what a pin
follows ends in a refresh (R171, R175, R181). -/

namespace Sys2Proof.Machine

variable {s t : State}

/-! ## Without POWER GOOD (R181) -/

theorem requestFor_off (h : s.station.powerGood = false) (row : RequestRow) : requestFor row s = none := by
  simp [requestFor, h]

theorem frameFor_off (h : s.station.powerGood = false) (own : Bool) (kind : FrameKind) : frameFor own kind s = none := by
  simp [frameFor, h]

theorem receiverHears_off (h : s.station.powerGood = false) : receiverHears s = false := by simp [receiverHears, h]

theorem idlePasses_off (h : s.station.powerGood = false) : idlePasses s = false := by simp [idlePasses, h]

theorem readyCandidate_off (h : s.station.powerGood = false) (n : Nat) : readyCandidate n s = none := by
  simp [readyCandidate, mayBegin, h]

theorem handleFrame_off (h : s.station.powerGood = false) {own : Bool} {kind : FrameKind}
    {handle : StoredFrame → State → State} : handleFrame own kind handle s = s := by
  rw [handleFrame, frameFor_off h]

/-- R181: without POWER GOOD a command other than its rising edge changes nothing (log 27). -/
theorem exec_off (h : s.station.powerGood = false) {c : Instr} (hc : ∀ l q o, c ≠ .powerGoodRise l q o) :
    exec c s = .next s := by
  cases c
  case powerGoodRise l q o => exact absurd rfl (hc l q o)
  case powerGoodFall | laneReset | requestComplete | requestGapTimeout | lanePortFramingError | outputRecordSent
      | dispositionRelease | deadlineExpiry | settleExpiry | inquiryWindowExpiry | answerHoldOffExpiry
      | correctionHoldOffExpiry | greetingRequeueExpiry | dwellClockTick | requestCharacterReceived | startBitSeen
      | breakEnd | highLineWaitEnd =>
    exact congrArg _ (powered_off h)
  case unknownRequest | present | configureTimes | configureClass | configureRange | configureMask
      | configureStopRouting | configureAutomaticEnd | commence | pause | resume | clearWork | loadWatchEntry | readEntry
      | readItem | readRoster | readStatus | readCondition | ackAttention | endAttention | clearConditions =>
    exact congrArg _ (serve_idle (requestFor_off h _))
  case peerClaim | peerCorrection | peerAnswer | peerInquiry | peerGreeting | ownClaimApplied | ownCorrectionApplied
      | ownAnswerMerged | ownInquiryHandled | ownGreetingHandled =>
    exact congrArg _ (handleFrame_off h)
  case headerReceived | payloadCharacterReceived | dockFramingError | lineBreak =>
    exact congrArg _ (if_neg (by simp [receiverHears_off h]))
  case truncation =>
    refine congrArg Host.Outcome.next ?_
    unfold truncation
    split <;> simp [idlePasses_off h]
  case discardConfirmed =>
    refine congrArg Host.Outcome.next ?_
    unfold discardConfirmed
    split <;> simp [idlePasses_off h]
  case peerFrameComplete =>
    refine congrArg Host.Outcome.next ?_
    unfold peerFrameComplete
    split <;> simp [h]
  case duplicateLane | jamEnd | collision => exact congrArg _ (if_neg (by simp [h]))
  case attemptStart n =>
    refine congrArg Host.Outcome.next ?_
    rw [attemptStart, readyCandidate_off h]
  case ownFrameCompletion =>
    refine congrArg Host.Outcome.next ?_
    unfold ownFrameCompletion
    split <;> simp [h]

/-! ## The pins (R171, R175) -/

/-- Both pins stand as R171 and R175 say. -/
def State.pinsMet (s : State) : Prop := (s.cond.attn = true ↔ s.attnDue) ∧ (s.cond.stop = true ↔ s.stopDue)

theorem pinsMet_refresh (s : State) : (refresh s).pinsMet := ⟨refresh_attn s, refresh_stop s⟩

theorem pinsMet_powerDown (s : State) : (powerDown s).pinsMet :=
  ⟨attnLevel_iff (powerDown s), stopLevel_iff (powerDown s)⟩

/-- What moves neither the condition unit nor the station leaves the pins as they should be. -/
theorem State.pinsMet.congr (h : s.pinsMet) (hcond : t.cond = s.cond) (hstation : t.station = s.station) : t.pinsMet := by
  unfold State.pinsMet State.attnDue State.stopDue at *
  rwa [hcond, hstation]

theorem pinsMet_serve {row : RequestRow} {taken : StationState → Bool} {take : Request → State → State} (h : s.pinsMet)
    (act : ∀ r, (take r s).pinsMet) : (serve row taken take s).pinsMet :=
  serve_keeps (P := State.pinsMet) h (fun _ _ _ _ => h) fun r _ _ _ => act r

theorem pinsMet_handleFrame {own : Bool} {kind : FrameKind} {handle : StoredFrame → State → State} (h : s.pinsMet) :
    (handleFrame own kind handle s).pinsMet :=
  handleFrame_keeps (P := State.pinsMet) h fun _ _ _ _ => pinsMet_refresh _

theorem pinsMet_tick (h : s.pinsMet) : (tick s).pinsMet :=
  h.congr (by simp [tick]) (by simp [tick])

theorem pinsMet_headerReceived (data : Byte) (noisy : Bool) (h : s.pinsMet) : (headerReceived data noisy s).pinsMet := by
  unfold headerReceived
  dsimp only
  split
  · split
    · exact State.pinsMet.congr (s := lineIdle s) h (readBack_cond ..) (readBack_station ..)
    · exact pinsMet_refresh _
  · exact h

theorem pinsMet_payloadCharacterReceived (data : Byte) (noisy : Bool) (h : s.pinsMet) :
    (payloadCharacterReceived data noisy s).pinsMet := by
  unfold payloadCharacterReceived
  dsimp only
  split
  · split
    · exact State.pinsMet.congr (s := lineIdle s) h (readBack_cond ..) (readBack_station ..)
    · exact State.pinsMet.congr (s := lineIdle s) h (takePayload_cond ..) (takePayload_station ..)
  · exact h

theorem pinsMet_dockFramingError (h : s.pinsMet) : (dockFramingError s).pinsMet := by
  unfold dockFramingError
  dsimp only
  split
  · split
    · exact State.pinsMet.congr (s := lineIdle s) h (readBackFault_cond ..) (readBackFault_station ..)
    · split
      · exact h
      · exact pinsMet_refresh _
  · exact h

theorem pinsMet_lineBreak (h : s.pinsMet) : (lineBreak s).pinsMet := by
  unfold lineBreak
  dsimp only
  split
  · split
    · exact h.congr (readBackFault_cond ..) (readBackFault_station ..)
    · exact h
  · exact h

/-- A command whose branches are a refresh, or leave the state as it was. -/
theorem pinsMet_ite {p : Prop} [Decidable p] {a b : State} (ha : a.pinsMet) (hb : b.pinsMet) :
    (if p then a else b).pinsMet := by
  split
  · exact ha
  · exact hb

theorem exec_pinsMet {c : Instr} (hs : s.pinsMet) (h : exec c s = .next t) (hrise : ∀ l q o, c ≠ .powerGoodRise l q o) :
    t.pinsMet := by
  cases c
  case powerGoodRise l q o => exact absurd rfl (hrise l q o)
  all_goals cases h
  case powerGoodFall => exact powered_keeps hs fun _ => pinsMet_powerDown s
  case laneReset =>
    exact powered_keeps hs fun _ => laneReset_keeps hs fun hl => laneReset_of_live hl ▸ pinsMet_refresh _
  case requestComplete =>
    refine powered_keeps hs fun _ => ?_
    unfold requestComplete
    split
    · exact hs
    · exact pinsMet_ite hs (pinsMet_refresh _)
  case requestGapTimeout | lanePortFramingError | requestCharacterReceived | outputRecordSent | dwellClockTick =>
    exact powered_keeps hs fun _ => hs
  case unknownRequest | configureTimes | configureClass | configureRange | configureMask | configureAutomaticEnd
      | loadWatchEntry | readRoster | readStatus | clearConditions => exact pinsMet_serve hs fun _ => hs
  case readItem =>
    refine pinsMet_serve hs fun _ => ?_
    split <;> exact hs
  case readCondition =>
    refine pinsMet_serve hs fun _ => ?_
    split
    · exact hs
    · split <;> exact hs
  case present => exact pinsMet_serve hs fun _ => pinsMet_ite hs (pinsMet_ite hs (pinsMet_refresh _))
  case configureStopRouting | commence | pause | resume | clearWork => exact pinsMet_serve hs fun _ => pinsMet_refresh _
  case readEntry =>
    refine pinsMet_serve hs fun _ => ?_
    dsimp only
    split
    · exact hs
    · exact pinsMet_ite hs (pinsMet_refresh _)
  case ackAttention | endAttention =>
    refine pinsMet_serve hs fun _ => ?_
    split
    · exact hs
    · exact pinsMet_refresh _
  case dispositionRelease => exact powered_keeps hs fun _ => pinsMet_refresh _
  case headerReceived => exact pinsMet_headerReceived _ _ hs
  case payloadCharacterReceived => exact pinsMet_payloadCharacterReceived _ _ hs
  case dockFramingError => exact pinsMet_dockFramingError hs
  case lineBreak => exact pinsMet_lineBreak hs
  case startBitSeen | breakEnd | highLineWaitEnd => exact powered_keeps hs fun _ => pinsMet_ite hs hs
  case truncation =>
    unfold truncation
    split
    · exact hs
    · exact pinsMet_ite (pinsMet_refresh _) hs
  case discardConfirmed =>
    unfold discardConfirmed
    split
    · exact hs
    · exact pinsMet_ite (pinsMet_refresh _) hs
  case peerFrameComplete =>
    unfold peerFrameComplete
    split
    · exact hs
    · exact pinsMet_ite (pinsMet_refresh _) hs
  case peerClaim | peerCorrection | peerAnswer | peerInquiry | peerGreeting | ownClaimApplied | ownCorrectionApplied
      | ownAnswerMerged | ownInquiryHandled | ownGreetingHandled => exact pinsMet_handleFrame hs
  case duplicateLane =>
    unfold duplicateLane
    refine pinsMet_ite ?_ hs
    split
    · exact pinsMet_ite (pinsMet_refresh _) hs
    · exact hs
    · exact hs
  case attemptStart n =>
    unfold attemptStart
    split
    · exact hs
    · exact pinsMet_refresh _
  case ownFrameCompletion =>
    unfold ownFrameCompletion
    split
    · exact hs
    · exact pinsMet_ite (pinsMet_refresh _) hs
  case collision => exact pinsMet_ite hs hs
  case jamEnd => exact pinsMet_ite (pinsMet_refresh _) hs
  case deadlineExpiry tag =>
    refine powered_keeps hs fun _ => ?_
    unfold deadlineExpiry
    split
    · exact hs
    · exact pinsMet_ite (pinsMet_refresh _) hs
  case settleExpiry tag =>
    refine powered_keeps hs fun _ => ?_
    unfold settleExpiry
    split
    · exact hs
    · exact pinsMet_ite (pinsMet_refresh _) hs
  case inquiryWindowExpiry k =>
    refine powered_keeps hs fun _ => ?_
    unfold inquiryWindowExpiry
    split
    · exact hs
    · exact pinsMet_ite (pinsMet_refresh _) hs
  case answerHoldOffExpiry | greetingRequeueExpiry =>
    exact powered_keeps hs fun _ => pinsMet_ite (pinsMet_refresh _) hs
  case correctionHoldOffExpiry l q =>
    refine powered_keeps hs fun _ => ?_
    unfold correctionHoldOffExpiry
    split
    · exact hs
    · exact pinsMet_ite hs (pinsMet_ite (pinsMet_refresh _) hs)

/-! ## STRAP FAULT (R171, R179) -/

/-- The four sets are empty. -/
def ConditionUnit.noFlags (u : ConditionUnit) : Prop :=
  u.recorded = 0 ∧ u.deferred = 0 ∧ u.pending = 0 ∧ u.inService = 0

theorem CondMove.noFlags {c : Instr} {st : StationState} {u v : ConditionUnit} (h : u.noFlags)
    (m : CondMove c st u v) : v.noFlags := by
  have ⟨hr, hd, hp, hs⟩ := h
  cases m with
  | releaseDeferred => exact ⟨hr, rfl, by simp [ConditionUnit.releaseDeferred, hp, hd], hs⟩
  | clearSets _ => exact ⟨rfl, rfl, rfl, rfl⟩
  | acknowledge hk =>
    rw [hp, highest_zero] at hk
    cases hk
  | endService k => exact ⟨hr, hd, hp, by simp [takeFrom, hs]⟩
  | clearFlags m _ => exact ⟨by simp [ConditionUnit.clearFlags, hr], by simp [ConditionUnit.clearFlags, hd], hp, hs⟩
  | mask | routing | autoEnd => exact h

/-- In STRAP FAULT the station stays there with its sets empty, and from elsewhere no command leads there. -/
theorem Reach.strapFault {c : Instr} (h : Reach c s t) :
    (t.station.state = .strapFault → s.station.state = .strapFault) ∧
      (s.station.state = .strapFault → s.cond.noFlags → t.station.state = .strapFault ∧ t.cond.noFlags) := by
  induction h with
  | start | powerOff => exact ⟨id, fun hs hf => ⟨hs, hf⟩⟩
  | occur k d _ ih =>
    obtain ⟨hto, hfrom⟩ := ih
    refine ⟨fun hs => hto (by simpa using hs), fun hs hf => ?_⟩
    obtain ⟨hstate, hflags⟩ := hfrom hs hf
    rw [occur_strapFault hstate]
    exact ⟨hstate, hflags⟩
  | cond _ m ih => exact ⟨ih.1, fun hs hf => ⟨(ih.2 hs hf).1, m.noFlags (ih.2 hs hf).2⟩⟩
  | @enter u st _ _ he ih =>
    refine ⟨fun hs => ?_, fun hs hf => ?_⟩
    · obtain rfl : st = .strapFault := hs
      simp [Enters] at he
    · simp [Enters, (ih.2 hs hf).1] at he
  | halt _ hr _ _ ih =>
    refine ⟨fun hs => by simp at hs, fun hs hf => ?_⟩
    simp [(ih.2 hs hf).1, StationState.receives] at hr
  | refresh _ ih => exact ih
  | append _ _ _ _ _ _ _ ih => exact ih
  | reply _ _ _ _ _ _ ih => exact ih
  | _ => assumption

theorem pinsFollow_iff : s.pinsFollow ↔ s.pinsMet ∧ (s.station.state = .strapFault → s.cond.noFlags) := by
  simp only [State.pinsFollow, State.pinsMet, ConditionUnit.noFlags, and_assoc]

theorem pinsFollow_of_reach {c : Instr} (hs : s.pinsFollow) (h : Reach c s t) (ht : t.pinsMet) : t.pinsFollow := by
  obtain ⟨hto, hfrom⟩ := h.strapFault
  exact pinsFollow_iff.2 ⟨ht, fun hf => (hfrom (hto hf) ((pinsFollow_iff.1 hs).2 (hto hf))).2⟩

theorem pinsFollow_powerUp (l : Lane) (q : BitVec 2) (o : Bool) (s : State) : (powerUp l q o s).pinsFollow := by
  refine pinsFollow_iff.2 ⟨⟨?_, ?_⟩, fun _ => ⟨rfl, rfl, rfl, rfl⟩⟩
  · refine ⟨fun h => by simp [powerUp] at h, ?_⟩
    rintro ⟨-, -, c, hc, -⟩
    simp only [powerUp, has_zero, Bool.false_eq_true] at hc
  · refine ⟨fun h => by simp [powerUp] at h, ?_⟩
    rintro ⟨-, -, hh | ⟨c, hc, -⟩⟩
    · dsimp only [powerUp] at hh
      split at hh <;> cases hh
    · simp only [powerUp, has_zero, Bool.false_eq_true] at hc

theorem pinsFollow_laneReset (h : s.pinsFollow) : (laneReset s).pinsFollow :=
  laneReset_keeps h fun hl => by
    rw [laneReset_of_live hl]
    exact pinsFollow_iff.2 ⟨pinsMet_refresh _, fun _ => ⟨rfl, rfl, rfl, rfl⟩⟩

theorem exec_pinsFollow {c : Instr} (hs : s.pinsFollow) (h : exec c s = .next t) : t.pinsFollow := by
  by_cases hrise : ∀ l q o, c ≠ .powerGoodRise l q o
  · by_cases hreset : c = .laneReset
    · subst hreset
      cases h
      exact powered_keeps hs fun _ => pinsFollow_laneReset hs
    · exact pinsFollow_of_reach hs (exec_reach h hrise hreset) (exec_pinsMet (pinsFollow_iff.1 hs).1 h hrise)
  · simp only [ne_eq, not_forall, not_not] at hrise
    obtain ⟨l, q, o, rfl⟩ := hrise
    cases h
    exact pinsFollow_powerUp l q o s

theorem idleStep_pinsFollow (hs : s.pinsFollow) : (idleStep s).pinsFollow := by
  refine pinsFollow_of_reach hs (idleStep_reach .startBitSeen s) ?_
  have hmet := (pinsFollow_iff.1 hs).1
  unfold idleStep
  split
  · split
    · exact hmet
    · exact pinsMet_tick hmet
  · exact hmet

end Sys2Proof.Machine

open Sys2Proof Sys2Proof.Machine

/-- Settles O17: the falling edge drives both pins low, and without POWER GOOD no command finds its guard met. -/
theorem inactiveWithoutPowerGood : Obligations.InactiveWithoutPowerGood := by
  unfold Obligations.InactiveWithoutPowerGood
  refine ⟨fun s hs => ?_, fun s c hs hc => exec_off hs hc⟩
  change Host.Outcome.next (powered powerDown s) = _
  rw [powered_on hs]
  simp [powerDown, ConditionUnit.drive, attnLevel, stopLevel, State.setStation, State.setAccess, State.setCond]

/-- Settles O52: a command either ends in a refresh or moves nothing a pin follows, and in STRAP FAULT the sets stay
empty. -/
theorem pinsFollowAtEveryStep : Obligations.PinsFollowAtEveryStep := by
  unfold Obligations.PinsFollowAtEveryStep
  intro s t hs h
  unfold step at h
  split at h
  · rename_i c rest _
    have hrest : (s.setPending rest).pinsFollow := hs
    exact exec_pinsFollow hrest h
  · cases h
    exact idleStep_pinsFollow hs
end

section
/-! Proofs about the turns of the transmit queue: at most one entry IN FLIGHT, none without an attempt or its jam, and
nothing to send outside JOINING, RUN and PAUSED (R61, R136, R138, R141, R150). -/

namespace Sys2Proof.Machine

variable {s t : State}

/-! ## What the invariant reads -/

/-- Which entries of the transmit queue are IN FLIGHT, in queue order. -/
def LineAccess.flights (a : LineAccess) : List Bool := a.queue.map TxEntry.inFlight

/-- The transmit queue goes in turn (R138, R141, R150). -/
def State.inTurn (s : State) : Prop :=
  s.access.flights.count true ≤ 1 ∧
    (s.access.unit = .quiet ∨ s.access.unit = .deferring → true ∉ s.access.flights) ∧
    (s.station.state.transmits = false →
      s.access.flights = [] ∧ s.claim.corrections = [] ∧ s.access.unit ≠ .sending)

theorem transmitsInTurn_iff : s.transmitsInTurn ↔ (s.station.powerGood = true → s.inTurn) := by
  have hcount : s.access.queue.countP TxEntry.inFlight = s.access.flights.count true := by
    simp [LineAccess.flights, List.count, List.countP_map, Function.comp_def]
  have hnone : (∀ e ∈ s.access.queue, e.inFlight = false) ↔ true ∉ s.access.flights := by
    simp [LineAccess.flights]
  have hnil : s.access.queue = [] ↔ s.access.flights = [] := by simp [LineAccess.flights]
  simp only [State.transmitsInTurn, State.inTurn, hcount, hnone, hnil]

/-- What moves neither the queue, the unit, the station state nor the corrections keeps the turns. -/
theorem State.inTurn.congr (h : s.inTurn) (hq : t.access.flights = s.access.flights)
    (hu : t.access.unit = s.access.unit) (hst : t.station.state = s.station.state)
    (hc : t.claim.corrections = s.claim.corrections) : t.inTurn := by
  unfold State.inTurn at *
  rwa [hq, hu, hst, hc]

/-- The same where whole blocks are kept. -/
theorem State.inTurn.of_blocks (h : s.inTurn) (ha : t.access = s.access) (hst : t.station = s.station)
    (hc : t.claim = s.claim) : t.inTurn :=
  h.congr (by rw [ha]) (by rw [ha]) (by rw [hst]) (by rw [hc])

/-- The unit goes on with its attempt or jam, or rests. -/
theorem restUnit_spec (st : StationState) (a : LineAccess) :
    (restUnit st a).queue = a.queue ∧ ((restUnit st a).unit = .sending ↔ a.unit = .sending) ∧
      ((restUnit st a).unit = .quiet ∨ (restUnit st a).unit = .deferring → a.unit = .quiet ∨ a.unit = .deferring) := by
  unfold restUnit
  cases hu : a.unit with
  | sending => simp [hu]
  | jamming => simp [hu]
  | quiet | deferring =>
    dsimp only
    split <;> simp

theorem State.inTurn.refresh (h : s.inTurn) : (refresh s).inTurn := by
  obtain ⟨hone, hrest, hstill⟩ := h
  obtain ⟨hqueue, hsending, hunit⟩ := restUnit_spec s.station.state s.access
  have hflights : (Machine.refresh s).access.flights = s.access.flights := congrArg (List.map TxEntry.inFlight) hqueue
  refine ⟨hflights ▸ hone, fun hu => hflights ▸ hrest (hunit hu), fun hst => ?_⟩
  obtain ⟨hnil, hc, hs⟩ := hstill hst
  exact ⟨hflights.trans hnil, hc, fun hn => hs (hsending.1 hn)⟩

/-- Entries only leave, or change without their flight beginning. -/
theorem State.inTurn.fewer {a : LineAccess} (h : s.inTurn) (hq : a.flights.Sublist s.access.flights)
    (hu : a.unit = s.access.unit) : (s.setAccess a).inTurn := by
  obtain ⟨hone, hrest, hstill⟩ := h
  refine ⟨Nat.le_trans (hq.count_le true) hone, fun hr hm => hrest (hu ▸ hr) (hq.subset hm), fun hst => ?_⟩
  obtain ⟨hnil, hc, hs⟩ := hstill hst
  exact ⟨List.sublist_nil.1 (hnil ▸ hq), hc, fun hn => hs (hu ▸ hn)⟩

/-- A WAITING entry is placed while the station transmits (R139). -/
theorem State.inTurn.place {a : LineAccess} (h : s.inTurn) (hst : s.station.state.transmits = true)
    (hq : a.flights = s.access.flights ++ [false]) (hu : a.unit = s.access.unit) : (s.setAccess a).inTurn := by
  obtain ⟨hone, hrest, -⟩ := h
  refine ⟨?_, fun hr => ?_, fun hno => ?_⟩
  · simpa [hq] using hone
  · have := hrest (hu ▸ hr)
    simpa [hq] using this
  · exact absurd hst (by rw [show s.station.state.transmits = false from hno]; exact Bool.false_ne_true)

/-- The pending corrections stay none where there were none. -/
theorem State.inTurn.setClaim {x : ClaimSequencer} (h : s.inTurn)
    (hc : s.claim.corrections = [] → x.corrections = []) : (s.setClaim x).inTurn := by
  obtain ⟨hone, hrest, hstill⟩ := h
  refine ⟨hone, hrest, fun hst => ?_⟩
  obtain ⟨hnil, hnone, hs⟩ := hstill hst
  exact ⟨hnil, hc hnone, hs⟩

/-- With the queue empty and nothing in transmission the turns are kept in any state. -/
theorem inTurn_of_empty (hq : s.access.queue = []) (hu : s.access.unit ≠ .sending) (hc : s.claim.corrections = []) :
    s.inTurn := by
  have hflights : s.access.flights = [] := by simp [LineAccess.flights, hq]
  exact ⟨by simp [hflights], by simp [hflights], fun _ => ⟨hflights, hc, hu⟩⟩

/-! ## The operations on the queue -/

theorem flights_placeEntry (a : LineAccess) (o : Owner) (n : Nat) : (a.placeEntry o n).flights = a.flights ++ [false] := by
  simp [LineAccess.flights, LineAccess.placeEntry]

theorem flights_placeLast (a : LineAccess) (o : Owner) : (a.placeLast o).flights = a.flights ++ [false] :=
  flights_placeEntry a o a.placements

theorem flights_removeEntry (a : LineAccess) (o : Owner) : (a.removeEntry o).flights.Sublist a.flights :=
  List.filter_sublist.map _

theorem flights_changeEntries (a : LineAccess) (o : Owner) {f : TxEntry → TxEntry}
    (hf : ∀ e, (f e).inFlight = e.inFlight) : (a.changeEntries o f).flights = a.flights := by
  simp only [LineAccess.flights, LineAccess.changeEntries, List.map_map]
  refine List.map_congr_left fun e _ => ?_
  simp only [Function.comp_apply]
  split
  · exact hf e
  · rfl

theorem State.inTurn.removeEntry (h : s.inTurn) (o : Owner) : (s.setAccess (s.access.removeEntry o)).inTurn :=
  h.fewer (flights_removeEntry _ o) rfl

theorem State.inTurn.changeEntries (h : s.inTurn) (o : Owner) {f : TxEntry → TxEntry}
    (hf : ∀ e, (f e).inFlight = e.inFlight) : (s.setAccess (s.access.changeEntries o f)).inTurn :=
  h.fewer (by rw [flights_changeEntries _ o hf]) rfl

theorem State.inTurn.queueClaim (h : s.inTurn) (hst : s.station.state.transmits = true) (tag : Byte) :
    (queueClaim tag s).inTurn :=
  State.inTurn.place (s := changeItem tag (fun it => { it with stage := .queued }) s) h hst (flights_placeEntry ..) rfl

theorem State.inTurn.joinInquiry (h : s.inTurn) (hst : s.station.state.transmits = true) (tag : Byte) (k : TitleKey) :
    (joinInquiry tag k s).inTurn := by
  unfold Machine.joinInquiry
  split
  · exact h
  · exact State.inTurn.place (s := s.setInquiry _) h hst (flights_placeEntry ..) rfl

theorem State.inTurn.closeToQueued (h : s.inTurn) (hst : s.station.state.transmits = true) (k : TitleKey) :
    (closeToQueued k s).inTurn := by
  unfold Machine.closeToQueued
  split
  · exact h
  · refine (foldl_induct (P := fun s => s.inTurn ∧ s.station.state.transmits = true) _ (fun u tag hu => ?_) _
      (s.setInquiry (s.inquiry.remove k)) ⟨h, hst⟩).1
    exact ⟨hu.1.queueClaim hu.2 tag, by simpa using hu.2⟩

theorem State.inTurn.leaveInquiry (h : s.inTurn) (tag : Byte) (k : TitleKey) : (leaveInquiry tag k s).inTurn := by
  unfold Machine.leaveInquiry
  split
  · exact h
  · rename_i q _
    split
    · unfold closeInquiry
      have removed : (s.setInquiry (s.inquiry.remove q.key)).inTurn := h
      cases q.stage with
      | queued => exact removed.removeEntry _
      | sending => exact removed.changeEntries _ fun _ => rfl
      | window => exact removed
    · exact State.inTurn.changeEntries (s := s.setInquiry _) h _ fun _ => rfl

theorem foldl_removeEntry_sublist {α : Type} (owner : α → Owner) (l : List α) :
    ∀ a : LineAccess, (l.foldl (fun a x => a.removeEntry (owner x)) a).flights.Sublist a.flights ∧
      (l.foldl (fun a x => a.removeEntry (owner x)) a).unit = a.unit := by
  induction l with
  | nil => exact fun a => ⟨.refl _, rfl⟩
  | cons x l ih => exact fun a => ⟨(ih _).1.trans (flights_removeEntry a _), (ih _).2⟩

theorem State.inTurn.removeCorrections (h : s.inTurn) (p : Correction → Bool) : (removeCorrections p s).inTurn := by
  obtain ⟨hsub, hunit⟩ := foldl_removeEntry_sublist Correction.owner (s.claim.corrections.filter p) s.access
  have hclaim := h.setClaim (x := { s.claim with corrections := s.claim.corrections.filter fun c => !p c })
    fun hnil => by simp [hnil]
  exact hclaim.fewer hsub hunit

theorem State.inTurn.removeAnswers (h : s.inTurn) (p : Answer → Bool) : (removeAnswers p s).inTurn := by
  obtain ⟨hsub, hunit⟩ :=
    foldl_removeEntry_sublist (fun x : Answer => .answer x.inquirer x.key) (s.inquiry.answers.filter p) s.access
  exact State.inTurn.fewer (s := s.setInquiry _) h hsub hunit

theorem foldl_placeLast_flights {α : Type} (owner : α → Owner) (l : List α) :
    ∀ a : LineAccess, (l.foldl (fun a x => a.placeLast (owner x)) a).flights =
        a.flights ++ List.replicate l.length false ∧
      (l.foldl (fun a x => a.placeLast (owner x)) a).unit = a.unit := by
  induction l with
  | nil => exact fun a => ⟨(List.append_nil _).symm, rfl⟩
  | cons x l ih =>
    intro a
    obtain ⟨hflights, hunit⟩ := ih (a.placeLast (owner x))
    refine ⟨?_, hunit⟩
    rw [List.foldl_cons, hflights, flights_placeLast, List.append_assoc]
    rfl

theorem State.inTurn.releaseHeld (h : s.inTurn) : (releaseHeld s).inTurn := by
  obtain ⟨hone, hrest, hstill⟩ := h
  obtain ⟨hflights, hunit⟩ :=
    foldl_placeLast_flights Correction.owner (s.claim.corrections.filter fun c => c.stage == .held) s.access
  refine ⟨?_, fun hr => ?_, fun hst => ?_⟩
  · simpa [Machine.releaseHeld, hflights, List.count_replicate] using hone
  · have := hrest (hunit ▸ hr)
    simp [Machine.releaseHeld, hflights, this]
  · obtain ⟨hnil, hc, hs⟩ := hstill hst
    simp [Machine.releaseHeld, hc, hnil, hs]

/-! ## HALTED (R136, R150) -/

theorem abort_queue (a : LineAccess) (rate : BitVec 2) : (a.abort rate).queue = [] ∧ (a.abort rate).unit ≠ .sending := by
  unfold LineAccess.abort
  cases a.unit <;> simp

theorem State.inTurn.enterHalted (h : s.inTurn) : (enterHalted s).inTurn := by
  unfold Machine.enterHalted
  split
  · obtain ⟨hq, hu⟩ := abort_queue s.access s.station.rate
    refine inTurn_of_empty ?_ ?_ ?_
    · simpa using hq
    · simpa using hu
    · simp
  · exact h

theorem State.inTurn.haltOccurrence (h : s.inTurn) (c : Condition) (d : Detail) : (haltOccurrence c d s).inTurn :=
  (h.of_blocks (occur_access s c d) (occur_station s c d) (occur_claim s c d)).enterHalted

theorem State.inTurn.memoryFault (h : s.inTurn) (k : TitleKey) : (memoryFault k s).inTurn :=
  State.inTurn.haltOccurrence (s := s.setDraws (s.draws + 1)) h _ _

/-! ## Commands -/

theorem State.inTurn.enterState (h : s.inTurn) {st : StationState} (hst : st.transmits = true) :
    (enterState st s).inTurn := by
  obtain ⟨hone, hrest, -⟩ := h
  refine ⟨hone, hrest, fun hno => absurd hst ?_⟩
  rw [show st.transmits = false from hno]
  exact Bool.false_ne_true

theorem State.inTurn.decideItem (h : s.inTurn) (tag : Byte) (d : Disposition) (reason : HoldReason) :
    (decideItem tag d reason s).inTurn :=
  h.of_blocks (decideItem_access s tag d reason) (decideItem_station s tag d reason) (decideItem_claim s tag d reason)

theorem inTurn_serve {row : RequestRow} {taken : StationState → Bool} {take : Request → State → State} (h : s.inTurn)
    (act : ∀ r, taken s.station.state = true → (take r s).inTurn) : (serve row taken take s).inTurn :=
  serve_keeps (P := State.inTurn) h (fun _ _ _ _ => h) fun r _ _ hst => act r hst

theorem inTurn_handleFrame {own : Bool} {kind : FrameKind} {handle : StoredFrame → State → State} (h : s.inTurn)
    (act : ∀ f u, u.inTurn → (handle f u).inTurn) : (handleFrame own kind handle s).inTurn :=
  handleFrame_keeps (P := State.inTurn) h fun f _ _ _ => (act f (s.setLine (freeFrame f s.line)) h).refresh

theorem inTurn_ite {p : Prop} [Decidable p] {a b : State} (ha : a.inTurn) (hb : b.inTurn) :
    (if p then a else b).inTurn := by
  split
  · exact ha
  · exact hb

/-! ### Requests -/

theorem State.inTurn.lookupItem (h : s.inTurn) (hst : s.station.state.transmits = true) (tag : Byte) (k : TitleKey)
    {reply : State → State} (hreply : ∀ u, u.inTurn → (reply u).inTurn) : (lookupItem tag k reply s).inTurn := by
  unfold Machine.lookupItem
  split
  · exact (hreply s h).memoryFault _
  · rename_i table found _
    have pinned : (changeItem tag (fun it => { it with pinned := true })
      (s.setTally { s.tally with table := table })).inTurn := h
    dsimp only
    split
    · exact hreply _ (pinned.queueClaim hst tag)
    · exact hreply _ (pinned.joinInquiry hst tag k)
    · exact hreply _ (pinned.joinInquiry hst tag k)

theorem State.inTurn.acceptItem (h : s.inTurn) (hst : s.station.state.transmits = true) (r : Request) :
    (acceptItem r s).inTurn := by
  have appended : (appendItem (newItem r s) s).inTurn := h
  unfold Machine.acceptItem
  dsimp only
  split
  · exact appended.decideItem _ _ _
  · have hscan : (presentedScan (newItem r s).tag (newItem r s).key (appendItem (newItem r s) s)).1.inTurn ∧
        (presentedScan (newItem r s).tag (newItem r s).key (appendItem (newItem r s) s)).1.station = s.station := by
      unfold presentedScan
      split <;> exact ⟨h, rfl⟩
    obtain ⟨scanned, hstation⟩ := hscan
    split
    · exact scanned.decideItem _ _ _
    · exact scanned.lookupItem (hstation ▸ hst) _ _ fun _ hu => hu

theorem inTurn_present (h : s.inTurn) : (present s).inTurn :=
  inTurn_serve h fun r hst => by
    have hrun : s.station.state = .run := by simpa using hst
    exact inTurn_ite h (inTurn_ite h (h.acceptItem (by rw [hrun]; rfl) r).refresh)

theorem inTurn_clearWork (h : s.inTurn) : (clearWork s).inTurn :=
  inTurn_serve h fun r hst => by
    obtain ⟨hq, hu⟩ := abort_queue s.access s.station.rate
    have dropped : (((s.setAccess (s.access.abort s.station.rate)).setClaim
        { s.claim with corrections := [] }).setInquiry {}).inTurn := inTurn_of_empty hq hu rfl
    have requeued := inTurn_ite (p := (s.station.state == .joining && s.claim.greetingTimer.isNone &&
      !greetingCompleted s) = true) (dropped.place hst (flights_placeEntry _ .greeting 0) rfl) dropped
    refine State.inTurn.refresh (requeued.of_blocks ?_ ?_ ?_)
    · simp only [releaseItems_access, State.setPort_access, decideAll_access]
      rfl
    · simp only [releaseItems_station, State.setPort_station, decideAll_station]
      rfl
    · simp only [releaseItems_claim, State.setPort_claim, decideAll_claim]
      rfl

theorem inTurn_readEntry (h : s.inTurn) : (readEntry s).inTurn :=
  inTurn_serve h fun r _ => by
    dsimp only
    split
    · exact h
    · refine inTurn_ite h (State.inTurn.refresh (State.inTurn.memoryFault ?_ _))
      exact h

/-! ### Frames in line order -/

theorem State.inTurn.scanApplied (h : s.inTurn) (k : TitleKey) (lane : Lane) (isClaim : Bool)
    (counts : Option (Nat × Nat)) : (scanApplied k lane isClaim counts s).inTurn :=
  h.of_blocks (scanApplied_access ..) (scanApplied_station ..) (scanApplied_claim ..)

theorem rosterCheck_corrections (kind : FrameKind) (lane : Lane) (seq : Byte) (k : TitleKey) (s : State) :
    (rosterCheck kind lane seq k s).claim.corrections = s.claim.corrections := by
  unfold rosterCheck
  dsimp only
  split
  · rw [advanceEpoch_claim, occur_claim]
    rfl
  · rfl

theorem State.inTurn.rosterCheck (h : s.inTurn) (kind : FrameKind) (lane : Lane) (seq : Byte) (k : TitleKey) :
    (rosterCheck kind lane seq k s).inTurn :=
  h.congr (by rw [rosterCheck_access]) (by rw [rosterCheck_access]) (by rw [rosterCheck_station])
    (rosterCheck_corrections ..)

theorem State.inTurn.scheduleCorrection (h : s.inTurn) (hst : s.station.state.transmits = true) (lane : Lane)
    (seq : Byte) (k : TitleKey) (n : Nat) : (scheduleCorrection lane seq k n s).inTurn := by
  obtain ⟨hone, hrest, -⟩ := h
  have hstill {p : Prop} (hno : s.station.state.transmits = false) : p := by simp [hst] at hno
  refine ⟨?_, ?_, fun hno => hstill ?_⟩
  · rwa [scheduleCorrection_access]
  · rwa [scheduleCorrection_access]
  · rwa [scheduleCorrection_station] at hno

theorem handlePeerClaim_inTurn (f : StoredFrame) (s : State) (h : s.inTurn) : (handlePeerClaim f s).inTurn := by
  unfold handlePeerClaim
  dsimp only
  split
  · exact h.memoryFault _
  · rename_i a _
    have applied : (s.setTally { s.tally with table := a.table }).inTurn := h
    have judged := (applied.scanApplied (readClaim f.payload).key f.lane true a.counts).rosterCheck .claim f.lane
      (readClaim f.payload).seq (readClaim f.payload).key
    split
    · rename_i hc
      exact judged.scheduleCorrection (Bool.and_eq_true_iff.1 hc).2 _ _ _ _
    · exact judged

theorem handlePeerCorrection_inTurn (f : StoredFrame) (s : State) (h : s.inTurn) :
    (handlePeerCorrection f s).inTurn := by
  unfold handlePeerCorrection
  dsimp only
  split
  · exact h.memoryFault _
  · rename_i a _
    have applied : (s.setTally { s.tally with table := a.table }).inTurn := h
    have judged := (applied.scanApplied (readCorrection f.payload).key f.lane false a.counts).rosterCheck .correction
      f.lane (readCorrection f.payload).seq (readCorrection f.payload).key
    refine State.inTurn.removeCorrections (inTurn_ite ?_ judged) _
    exact judged.of_blocks (takeCorrection_access ..) (takeCorrection_station ..) (takeCorrection_claim ..)

theorem handlePeerAnswer_inTurn (f : StoredFrame) (s : State) (h : s.inTurn) : (handlePeerAnswer f s).inTurn := by
  unfold handlePeerAnswer
  dsimp only
  split
  · exact h.memoryFault _
  · rename_i a _
    have merged : (s.setTally { s.tally with table := a.table }).inTurn := h
    exact (merged.scanApplied _ _ _ _).removeAnswers _

theorem handlePeerInquiry_inTurn (f : StoredFrame) (s : State) (h : s.inTurn) : (handlePeerInquiry f s).inTurn := by
  unfold handlePeerInquiry
  dsimp only
  split
  · exact h.memoryFault _
  · rename_i table _ _
    have touched : (s.setTally { s.tally with table := table }).inTurn := h
    exact touched.of_blocks (scheduleAnswer_access ..) (scheduleAnswer_station ..) (scheduleAnswer_claim ..)

theorem handlePeerGreeting_inTurn (f : StoredFrame) (s : State) (h : s.inTurn) : (handlePeerGreeting f s).inTurn := by
  refine h.congr (by rw [handlePeerGreeting_access]) (by rw [handlePeerGreeting_access])
    (by rw [handlePeerGreeting_station]) ?_
  rw [handlePeerGreeting, occur_claim]
  rfl

theorem handleOwnClaim_inTurn (f : StoredFrame) (s : State) (h : s.inTurn) : (handleOwnClaim f s).inTurn := by
  unfold handleOwnClaim
  dsimp only
  split
  · exact h.memoryFault _
  · rename_i a _
    have applied : (s.setTally { s.tally with table := a.table }).inTurn := h
    exact (applied.scanApplied _ _ _ _).of_blocks (assignOrdinal_access ..) (assignOrdinal_station ..)
      (assignOrdinal_claim ..)

theorem handleOwnCorrection_inTurn (f : StoredFrame) (s : State) (h : s.inTurn) : (handleOwnCorrection f s).inTurn := by
  unfold handleOwnCorrection
  dsimp only
  split
  · exact h.memoryFault _
  · rename_i a _
    have applied : (s.setTally { s.tally with table := a.table }).inTurn := h
    exact (applied.scanApplied _ _ _ _).setClaim fun hnil => by
      dsimp only
      rw [hnil]
      rfl

theorem handleOwnAnswer_inTurn (f : StoredFrame) (s : State) (h : s.inTurn) : (handleOwnAnswer f s).inTurn := by
  unfold handleOwnAnswer
  dsimp only
  split
  · exact h.memoryFault _
  · rename_i a _
    have merged : (s.setTally { s.tally with table := a.table }).inTurn := h
    exact merged.scanApplied (readAnswer f.payload).key f.lane false a.counts

theorem handleOwnGreeting_inTurn (f : StoredFrame) (s : State) (h : s.inTurn) : (handleOwnGreeting f s).inTurn := by
  unfold handleOwnGreeting
  dsimp only
  refine State.inTurn.releaseHeld (State.inTurn.setClaim (s := if s.station.state == .joining then _ else _) ?_ ?_)
  · refine inTurn_ite ?_ h
    exact h.enterState rfl
  · split <;> exact id

/-! ### Line access -/

/-- The entries in flight at an attempt: none before it begins (R141). -/
theorem not_mem_flights_of_candidate {e : TxEntry} (h : s.access.candidate = some e) :
    e ∈ s.access.queue ∧ e.inFlight = false := by
  have firstOf_mem : ∀ (l : List TxEntry) {x : TxEntry}, firstOf l = some x → x ∈ l := by
    intro l
    induction l with
    | nil => intro x hx; cases hx
    | cons y rest ih =>
      intro x hx
      unfold firstOf at hx
      split at hx
      · cases hx
        exact List.mem_cons_self
      · rename_i f hf
        split at hx
        · cases hx
          exact List.mem_cons_of_mem _ (ih hf)
        · cases hx
          exact List.mem_cons_self
  obtain ⟨hmem, hwaiting⟩ := List.mem_filter.1 (firstOf_mem _ h)
  exact ⟨hmem, by simpa using hwaiting⟩

theorem readyCandidate_spec {n : Nat} {e : TxEntry} (h : readyCandidate n s = some e) :
    s.station.powerGood = true ∧ s.station.state.transmits = true ∧ s.access.unit = .deferring ∧ s.line.holder = none ∧
      s.line.receiver = .idle ∧ s.access.candidate = some e ∧
      deferral s.station.lane s.access.yield e.attempts ≤ n := by
  unfold readyCandidate at h
  split at h
  · rename_i hb
    simp only [mayBegin, Bool.and_eq_true, beq_iff_eq, Option.isNone_iff_eq_none] at hb
    obtain ⟨⟨⟨⟨hp, ht⟩, hu⟩, hh⟩, hr⟩ := hb
    obtain ⟨hc, hd⟩ := Option.filter_eq_some_iff.1 h
    exact ⟨hp, ht, hu, hh, hr, hc, of_decide_eq_true hd⟩
  · cases h

theorem count_replace_inFlight (l : List TxEntry) (e : TxEntry) (h : true ∉ l.map TxEntry.inFlight) :
    ((l.replace e { e with inFlight := true }).map TxEntry.inFlight).count true ≤ 1 := by
  have hzero : (l.map TxEntry.inFlight).count true = 0 := List.count_eq_zero.2 h
  clear h
  induction l with
  | nil => simp
  | cons x rest ih =>
    simp only [List.map_cons, List.count_cons, Nat.add_eq_zero_iff] at hzero
    obtain ⟨hrest, hx⟩ := hzero
    rw [List.replace_cons]
    split
    · simp [hrest]
    · have hwaits : x.inFlight = false := by simpa using hx
      simpa [List.count_cons, hwaits] using ih hrest

theorem State.inTurn.beginSending (h : s.inTurn) (hst : s.station.state.transmits = true)
    (hu : s.access.unit = .deferring) (e : TxEntry) (kind : FrameKind) (payload : List Byte) :
    (beginSending e kind payload s).inTurn := by
  obtain ⟨-, hrest, -⟩ := h
  refine ⟨count_replace_inFlight _ e (hrest (.inr hu)), fun hr => ?_, fun hno => ?_⟩
  · rcases hr with hr | hr <;> cases hr
  · exact absurd hst (by rw [show s.station.state.transmits = false from hno]; exact Bool.false_ne_true)

/-- A build keeps the turns; a build that yields a frame leaves the station and the line access unit as they are. -/
def Build.keepsTurn (s : State) : Build → Prop
  | .frame _ _ t => t.inTurn ∧ t.station = s.station ∧ t.access = s.access
  | .refusedBuild t => t.inTurn

theorem buildClaim_keepsTurn (h : s.inTurn) (tag : Byte) : (buildClaim tag s).keepsTurn s := by
  have gone := h.removeEntry (.claim tag)
  unfold buildClaim
  dsimp only
  split
  · exact gone
  · split
    · exact gone.memoryFault _
    · split
      · exact ⟨h, rfl, rfl⟩
      · split
        · refine State.inTurn.decideItem ?_ _ _ _
          exact gone
        · exact ⟨h, rfl, rfl⟩

theorem buildAnswer_keepsTurn (h : s.inTurn) (l : Lane) (k : TitleKey) : (buildAnswer l k s).keepsTurn s := by
  have gone := h.removeEntry (.answer l k)
  unfold buildAnswer
  dsimp only
  split
  · exact gone.memoryFault _
  · split
    · exact gone
    · split
      · exact gone
      · exact ⟨h, rfl, rfl⟩

theorem buildFrame_keepsTurn (h : s.inTurn) (o : Owner) : (buildFrame o s).keepsTurn s := by
  cases o with
  | claim tag => exact buildClaim_keepsTurn h tag
  | inquiry k => exact ⟨h, rfl, rfl⟩
  | closedInquiry => exact h.removeEntry .closedInquiry
  | answer l k => exact buildAnswer_keepsTurn h l k
  | correction l q n =>
    change (buildCorrection _ s).keepsTurn s
    unfold buildCorrection
    split
    · exact h.removeEntry _
    · refine ⟨h.setClaim fun hnil => ?_, rfl, rfl⟩
      dsimp only
      split <;> simp [ClaimSequencer.draw, hnil]
  | greeting => exact ⟨h, rfl, rfl⟩

theorem attempts_inTurn (n : Nat) : ∀ (fuel : Nat) (s : State), s.inTurn → (attempts fuel n s).inTurn
  | 0, _, h => h
  | fuel + 1, s, h => by
    unfold attempts
    split
    · exact h
    · rename_i e he
      obtain ⟨-, hst, hu, -⟩ := readyCandidate_spec he
      have built := buildFrame_keepsTurn h e.owner
      split
      · rename_i heq
        rw [heq] at built
        obtain ⟨hb, hstation, haccess⟩ := built
        exact hb.beginSending (hstation ▸ hst) (haccess ▸ hu) e _ _
      · rename_i heq
        rw [heq] at built
        exact attempts_inTurn n fuel _ built

theorem inTurn_ownFrameCompletion (h : s.inTurn) : (ownFrameCompletion s).inTurn := by
  unfold ownFrameCompletion
  split
  · exact h
  · rename_i fl _
    refine inTurn_ite (State.inTurn.refresh ?_) h
    obtain ⟨-, -, hstill⟩ := h
    have hflights : true ∉ (s.access.queue.filter fun e => !e.inFlight).map TxEntry.inFlight := by
      simp
    have left {u : State} (hq : u.access.flights = (s.access.queue.filter fun e => !e.inFlight).map TxEntry.inFlight)
        (hu : u.access.unit = .quiet) (hst : u.station = s.station) (hc : u.claim = s.claim) : u.inTurn := by
      refine ⟨?_, fun _ => hq ▸ hflights, fun hno => ?_⟩
      · rw [hq, List.count_eq_zero.2 hflights]
        exact Nat.zero_le 1
      · obtain ⟨hnil, hnone, -⟩ := hstill (hst ▸ hno)
        have hqueue : s.access.queue = [] := by simpa [LineAccess.flights] using hnil
        exact ⟨by rw [hq, hqueue]; rfl, by rw [hc, hnone], by simp [hu]⟩
    dsimp only
    split <;> exact left rfl rfl rfl rfl

theorem inTurn_collision (h : s.inTurn) : (collision s).inTurn := by
  unfold collision
  split
  · rename_i hc
    have hsending : s.access.unit = .sending := by simpa using (Bool.and_eq_true_iff.1 hc).2
    obtain ⟨hone, -, hstill⟩ := h
    have hflights : (s.access.queue.map fun e => if e.inFlight then { e with attempts := e.attempts + 1 } else e).map
        TxEntry.inFlight = s.access.flights := by
      rw [List.map_map]
      refine List.map_congr_left fun e _ => ?_
      simp only [Function.comp_apply]
      split <;> rfl
    refine ⟨?_, fun hr => ?_, fun hst => absurd hsending (hstill hst).2.2⟩
    case refine_2 => rcases hr with hr | hr <;> cases hr
    change List.count true (List.map _ (List.map _ _)) ≤ 1
    rwa [hflights]
  · exact h

/-- The unit at rest at the end of a jam, its entry still to be dealt with. -/
def Ended (s : State) : Prop :=
  s.access.flights.count true ≤ 1 ∧ s.access.unit = .quiet ∧
    (s.station.state.transmits = false → s.access.flights = [] ∧ s.claim.corrections = [])

theorem Ended.inTurn (h : Ended s) (hnone : true ∉ s.access.flights) : s.inTurn := by
  obtain ⟨hone, hu, hstill⟩ := h
  exact ⟨hone, fun _ => hnone, fun hst => ⟨(hstill hst).1, (hstill hst).2, by simp [hu]⟩⟩

theorem State.inTurn.abandon (h : s.inTurn) (hst : s.station.state.transmits = true) (o : Owner) :
    (abandon o s).inTurn := by
  have contended (kind : FrameKind) (k : Option TitleKey) {u : State} (hu : u.inTurn) : (contention kind k u).inTurn :=
    hu.of_blocks (contention_access ..) (contention_station ..) (contention_claim ..)
  cases o with
  | claim tag => exact h.decideItem _ _ _
  | inquiry k => exact (contended _ _ h).closeToQueued (by simpa using hst) k
  | closedInquiry => exact h
  | answer l k =>
    refine contended _ _ ?_
    exact h
  | correction l q n => exact contended _ _ (h.setClaim fun hnil => by simp [hnil])
  | greeting => exact contended _ _ (h.setClaim id)

/-- With at most one entry in flight, an owner's entries put back leave none in flight where the entry in flight is his. -/
theorem flights_returned {l : List TxEntry} {e : TxEntry} (hone : (l.map TxEntry.inFlight).count true ≤ 1)
    (he : l.find? TxEntry.inFlight = some e) :
    true ∉ (l.map fun x => if x.owner == e.owner then { x with inFlight := false } else x).map TxEntry.inFlight := by
  obtain ⟨hflight, before, behind, rfl, hbefore⟩ := List.find?_eq_some_iff_append.1 he
  have hcount : (behind.map TxEntry.inFlight).count true = 0 := by
    simp only [List.map_append, List.map_cons, List.count_append, hflight, List.count_cons_self] at hone
    omega
  simp only [List.map_map, List.mem_map, Function.comp_apply, not_exists, not_and]
  intro x hx hflies
  have hne : ¬ x.owner = e.owner := fun heq => by simp [heq] at hflies
  have hfx : x.inFlight = true := by simpa [hne] using hflies
  rcases List.mem_append.1 hx with hx | hx
  · simpa [hfx] using hbefore x hx
  · rcases List.mem_cons.1 hx with rfl | hx
    · exact hne rfl
    · exact List.count_eq_zero.1 hcount (List.mem_map.2 ⟨x, hx, hfx⟩)

theorem Ended.endAttempt (h : Ended s) {e : TxEntry} (he : s.access.inFlightEntry = some e) : (endAttempt e s).inTurn := by
  have hst : s.station.state.transmits = true := by
    by_contra hno
    have hnil := (h.2.2 (Bool.eq_false_iff.2 hno)).1
    have hmem := List.mem_of_find?_eq_some he
    simp [LineAccess.flights] at hnil
    simp [hnil] at hmem
  have gone : (s.setAccess { s.access with queue := s.access.queue.filter fun e => !e.inFlight }).inTurn := by
    have hflights : true ∉ (s.access.queue.filter fun e => !e.inFlight).map TxEntry.inFlight := by simp
    refine Ended.inTurn ⟨?_, h.2.1, fun hno => absurd hst (Bool.eq_false_iff.1 hno)⟩ hflights
    exact (List.count_eq_zero.2 hflights).trans_le (Nat.zero_le 1)
  have back : (s.setAccess (s.access.changeEntries e.owner fun e => { e with inFlight := false })).inTurn := by
    have hflights := flights_returned h.1 he
    refine Ended.inTurn ⟨?_, h.2.1, fun hno => absurd hst (Bool.eq_false_iff.1 hno)⟩ hflights
    exact (List.count_eq_zero.2 hflights).trans_le (Nat.zero_le 1)
  unfold Machine.endAttempt
  dsimp only
  split
  · split
    · exact gone.decideItem _ _ _
    · exact gone
  · split
    · exact gone.abandon hst e.owner
    · unfold returnEntry
      generalize e.owner = o at back
      cases o <;> exact back

theorem inTurn_jamEnd (h : s.inTurn) : (jamEnd s).inTurn := by
  unfold jamEnd
  refine inTurn_ite (State.inTurn.refresh ?_) h
  obtain ⟨hone, -, hstill⟩ := h
  have ended : Ended (s.setAccess { s.access with
      unit := .quiet, flight := none, readback := 0, readbackFault := false, wave := [], txElapsed := 0
      jamLeft := 0 }) :=
    ⟨hone, rfl, fun hst => ⟨(hstill hst).1, (hstill hst).2.1⟩⟩
  dsimp only
  split
  · rename_i e he
    exact ended.endAttempt he
  · rename_i hnone
    refine ended.inTurn fun hmem => ?_
    obtain ⟨e, he, hflight⟩ := List.mem_map.1 hmem
    simpa [hflight] using List.find?_eq_none.1 hnone e he

theorem State.inTurn.expireDeadline (h : s.inTurn) (it : Item) : (expireDeadline it s).inTurn := by
  unfold Machine.expireDeadline
  cases it.stage with
  | inquiring => exact (h.leaveInquiry _ _).decideItem _ _ _
  | queued => exact (h.removeEntry _).decideItem _ _ _
  | onLine =>
    refine h.changeEntries _ fun e => ?_
    split <;> rfl
  | settling => exact h.decideItem _ _ _
  | decided => exact h

theorem inTurn_correctionHoldOffExpiry (l : Lane) (q : Byte) (h : s.inTurn) : (correctionHoldOffExpiry l q s).inTurn := by
  unfold correctionHoldOffExpiry
  split
  · exact h
  · rename_i c hc
    have hmem : c ∈ s.claim.corrections := List.mem_of_find?_eq_some hc
    split
    · refine h.setClaim fun hnil => ?_
      simp [hnil] at hmem
    · split
      · rename_i hst
        have queued := h.setClaim (x := { s.claim with
          corrections := s.claim.corrections.replace c { c with stage := .queued, holdOff := 0 } }) fun hnil => by
            simp [hnil]
        exact (queued.place hst (flights_placeLast ..) rfl).refresh
      · exact h

theorem inTurn_placed {o : Owner} {n : Nat} (h : s.inTurn) (hst : s.station.state.transmits = true) :
    (s.setAccess (s.access.placeEntry o n)).inTurn :=
  h.place hst (flights_placeEntry ..) rfl

theorem readBack_flights (b : Byte) (m n : Bool) (s : State) :
    (readBack b m n s).access.flights = s.access.flights ∧ (readBack b m n s).access.unit = s.access.unit := by
  unfold readBack
  split
  · split <;> exact ⟨rfl, rfl⟩
  · exact ⟨rfl, rfl⟩

theorem State.inTurn.readBack (h : s.inTurn) (b : Byte) (m n : Bool) : (readBack b m n s).inTurn :=
  h.congr (readBack_flights b m n s).1 (readBack_flights b m n s).2 (by rw [readBack_station])
    (by rw [readBack_claim])

theorem State.inTurn.readBackFault (h : s.inTurn) : (readBackFault s).inTurn := by
  unfold Machine.readBackFault
  exact inTurn_ite h h

theorem State.inTurn.placeDiscard (h : s.inTurn) (d : Discard) : (placeDiscard d s).inTurn :=
  h.of_blocks (placeDiscard_access ..) (placeDiscard_station ..) (placeDiscard_claim ..)

theorem State.inTurn.confirmDiscard (h : s.inTurn) (d : Discard) : (confirmDiscard d s).inTurn :=
  h.of_blocks (confirmDiscard_access ..) (confirmDiscard_station ..) (confirmDiscard_claim ..)

theorem exec_inTurn {c : Instr} (hs : s.inTurn) (h : exec c s = .next t) (hrise : ∀ l q o, c ≠ .powerGoodRise l q o)
    (hfall : c ≠ .powerGoodFall) : t.inTurn := by
  have idle : (lineIdle s).inTurn := hs
  cases c
  case powerGoodRise l q o => exact absurd rfl (hrise l q o)
  case powerGoodFall => exact absurd rfl hfall
  all_goals cases h
  case laneReset =>
    refine powered_keeps hs fun _ => laneReset_keeps hs fun hl => ?_
    rw [laneReset_of_live hl]
    obtain ⟨hq, hu⟩ := abort_queue s.access s.station.rate
    exact State.inTurn.refresh (inTurn_of_empty hq hu rfl)
  case requestComplete =>
    refine powered_keeps hs fun _ => ?_
    unfold requestComplete
    split
    · exact hs
    · refine inTurn_ite hs (State.inTurn.refresh ?_)
      exact State.inTurn.of_blocks (s := s.setPort _) hs (occur_access ..) (occur_station ..) (occur_claim ..)
  case requestGapTimeout | lanePortFramingError | requestCharacterReceived | outputRecordSent | dwellClockTick =>
    exact powered_keeps hs fun _ => hs
  case unknownRequest | configureTimes | configureClass | configureRange | configureMask | configureAutomaticEnd
      | loadWatchEntry | readRoster | readStatus | clearConditions => exact inTurn_serve hs fun _ _ => hs
  case readItem =>
    refine inTurn_serve hs fun _ _ => ?_
    split <;> exact hs
  case readCondition =>
    refine inTurn_serve hs fun _ _ => ?_
    split
    · exact hs
    · split <;> exact hs
  case present => exact inTurn_present hs
  case configureStopRouting => exact inTurn_serve hs fun _ _ => State.inTurn.refresh hs
  case commence =>
    exact inTurn_serve hs fun _ _ => (inTurn_placed (hs.enterState (st := .joining) rfl) rfl).refresh
  case pause =>
    refine inTurn_serve hs fun _ _ => State.inTurn.refresh ?_
    exact inTurn_ite (a := (enterState .paused s).setCond s.cond.releaseDeferred) (hs.enterState rfl) hs
  case resume => exact inTurn_serve hs fun _ _ => (hs.enterState (st := .run) rfl).refresh
  case clearWork => exact inTurn_clearWork hs
  case readEntry => exact inTurn_readEntry hs
  case ackAttention | endAttention =>
    refine inTurn_serve hs fun _ _ => ?_
    split
    · exact hs
    · exact State.inTurn.refresh hs
  case dispositionRelease =>
    refine powered_keeps hs fun _ => State.inTurn.refresh ?_
    exact hs.of_blocks (releaseItems_access ..) (releaseItems_station ..) (releaseItems_claim ..)
  case headerReceived b n =>
    refine inTurn_ite (inTurn_ite (idle.readBack _ _ _) (State.inTurn.refresh ?_)) hs
    exact idle.of_blocks (takeHeader_access ..) (takeHeader_station ..) (takeHeader_claim ..)
  case payloadCharacterReceived b n =>
    refine inTurn_ite (inTurn_ite (idle.readBack _ _ _) ?_) hs
    exact idle.of_blocks (takePayload_access ..) (takePayload_station ..) (takePayload_claim ..)
  case dockFramingError =>
    refine inTurn_ite (inTurn_ite idle.readBackFault ?_) hs
    split
    · exact hs
    · refine State.inTurn.refresh (State.inTurn.placeDiscard ?_ _)
      exact hs
  case lineBreak => exact inTurn_ite (inTurn_ite (State.inTurn.readBackFault hs) hs) hs
  case startBitSeen | breakEnd | highLineWaitEnd => exact powered_keeps hs fun _ => inTurn_ite hs hs
  case truncation =>
    unfold truncation
    split
    · exact hs
    · refine inTurn_ite (State.inTurn.refresh (State.inTurn.confirmDiscard ?_ _)) hs
      exact State.inTurn.of_blocks (s := setAssembler .muted s) hs (discardRoom_access ..) (discardRoom_station ..)
        (discardRoom_claim ..)
  case discardConfirmed =>
    unfold discardConfirmed
    split
    · exact hs
    · refine inTurn_ite (State.inTurn.refresh (State.inTurn.confirmDiscard ?_ _)) hs
      exact hs
  case peerFrameComplete =>
    unfold peerFrameComplete
    split
    · exact hs
    · rename_i f rest _
      refine inTurn_ite (State.inTurn.refresh ?_) hs
      have taken : (s.setLine { s.line with atCheck := rest }).inTurn := hs
      split
      · refine inTurn_ite ?_ (taken.placeDiscard _)
        exact taken.of_blocks (storeFrame_access ..) (storeFrame_station ..) (storeFrame_claim ..)
      · exact taken.placeDiscard _
  case peerClaim => exact inTurn_handleFrame hs handlePeerClaim_inTurn
  case peerCorrection => exact inTurn_handleFrame hs handlePeerCorrection_inTurn
  case peerAnswer => exact inTurn_handleFrame hs handlePeerAnswer_inTurn
  case peerInquiry => exact inTurn_handleFrame hs handlePeerInquiry_inTurn
  case peerGreeting => exact inTurn_handleFrame hs handlePeerGreeting_inTurn
  case ownClaimApplied => exact inTurn_handleFrame hs handleOwnClaim_inTurn
  case ownCorrectionApplied => exact inTurn_handleFrame hs handleOwnCorrection_inTurn
  case ownAnswerMerged => exact inTurn_handleFrame hs handleOwnAnswer_inTurn
  case ownInquiryHandled => exact inTurn_handleFrame hs fun _ _ hu => hu
  case ownGreetingHandled => exact inTurn_handleFrame hs handleOwnGreeting_inTurn
  case duplicateLane =>
    unfold duplicateLane
    refine inTurn_ite ?_ hs
    split
    · refine inTurn_ite (State.inTurn.refresh (State.inTurn.haltOccurrence ?_ _ _)) hs
      exact hs
    · exact hs
    · exact hs
  case attemptStart n =>
    unfold attemptStart
    split
    · exact hs
    · exact (attempts_inTurn n _ s hs).refresh
  case ownFrameCompletion => exact inTurn_ownFrameCompletion hs
  case collision => exact inTurn_collision hs
  case jamEnd => exact inTurn_jamEnd hs
  case deadlineExpiry tag =>
    refine powered_keeps hs fun _ => ?_
    unfold deadlineExpiry
    split
    · exact hs
    · exact inTurn_ite (hs.expireDeadline _).refresh hs
  case settleExpiry tag =>
    refine powered_keeps hs fun _ => ?_
    unfold settleExpiry
    split
    · exact hs
    · exact inTurn_ite (hs.decideItem _ _ _).refresh hs
  case inquiryWindowExpiry k =>
    refine powered_keeps hs fun _ => ?_
    unfold inquiryWindowExpiry
    split
    · exact hs
    · split
      · rename_i hc
        simp only [Bool.and_eq_true, and_assoc] at hc
        have certain : (s.setTally { s.tally with table := makeCertain s.tally.table k }).inTurn := hs
        exact (certain.closeToQueued hc.1 k).refresh
      · exact hs
  case answerHoldOffExpiry l k =>
    refine powered_keeps hs fun _ => ?_
    unfold answerHoldOffExpiry
    split
    · rename_i hc
      refine State.inTurn.refresh (State.inTurn.place ?_ (Bool.and_eq_true_iff.1 hc).1 (flights_placeLast ..) rfl)
      exact hs
    · exact hs
  case correctionHoldOffExpiry l q => exact powered_keeps hs fun _ => inTurn_correctionHoldOffExpiry l q hs
  case greetingRequeueExpiry =>
    refine powered_keeps hs fun _ => ?_
    unfold greetingRequeueExpiry
    split
    · rename_i hc
      have hjoining : s.station.state = .joining := by simpa using (Bool.and_eq_true_iff.1 hc).1
      have stopped := hs.setClaim (x := { s.claim with greetingTimer := none }) id
      exact (inTurn_placed stopped (by simp [hjoining, StationState.transmits])).refresh
    · exact hs

/-! ### Steps -/

theorem exec_transmitsInTurn {c : Instr} (hs : s.transmitsInTurn) (h : exec c s = .next t) : t.transmitsInTurn := by
  refine transmitsInTurn_iff.2 fun ht => ?_
  by_cases hrise : ∀ l q o, c ≠ .powerGoodRise l q o
  · by_cases hon : s.station.powerGood = true
    · by_cases hfall : c = .powerGoodFall
      · subst hfall
        cases h
        rw [powered_on hon] at ht
        cases ht
      · exact exec_inTurn (transmitsInTurn_iff.1 hs hon) h hrise hfall
    · have hoff := Bool.eq_false_iff.2 hon
      rw [exec_off hoff hrise] at h
      cases h
      exact absurd ht hon
  · simp only [ne_eq, not_forall, not_not] at hrise
    obtain ⟨l, q, o, rfl⟩ := hrise
    cases h
    exact inTurn_of_empty rfl nofun rfl

theorem State.inTurn.tickTimers (h : s.inTurn) : (tickTimers s).inTurn := by
  unfold Machine.tickTimers
  refine inTurn_ite ?_ h
  refine State.inTurn.setClaim (s := (s.setArrival _).setInquiry _) h fun hnil => ?_
  change List.map _ s.claim.corrections = []
  rw [show s.claim.corrections = [] from hnil]
  rfl

theorem State.inTurn.tickLine (h : s.inTurn) : (tickLine s).inTurn := h.congr rfl rfl rfl rfl

theorem State.inTurn.tick (h : s.inTurn) : (tick s).inTurn := by
  have ticked := h.tickTimers.tickLine
  unfold Machine.tick
  generalize Machine.tickLine (Machine.tickTimers s) = u at ticked
  exact ticked.congr rfl rfl rfl rfl

theorem idleStep_transmitsInTurn (hs : s.transmitsInTurn) : (idleStep s).transmitsInTurn := by
  unfold idleStep
  split
  · rename_i hon
    have hturn : s.inTurn := transmitsInTurn_iff.1 hs hon
    split
    · exact transmitsInTurn_iff.2 fun _ => hturn.congr rfl rfl rfl rfl
    · exact transmitsInTurn_iff.2 fun _ => hturn.tick
  · exact hs

end Sys2Proof.Machine

open Sys2Proof Sys2Proof.Machine

/-- Settles O56: the limits by induction over what a command can do, the turns of the transmit queue command by command. -/
theorem limitsKept : Obligations.LimitsKept := by
  unfold Obligations.LimitsKept
  refine ⟨fun s t hs h => ?_, fun s t hs h => ?_⟩
  · exact step_keeps (P := State.withinBounds) hs h (fun _ => hs) (fun u l q o => withinBounds_powerUp l q o u)
      (fun _ hu => withinBounds_laneReset hu) fun _ _ _ hu huv => huv.withinBounds hu
  · unfold step at h
    split at h
    · rename_i c rest _
      have hrest : (s.setPending rest).transmitsInTurn := hs
      exact exec_transmitsInTurn hrest h
    · cases h
      exact idleStep_transmitsInTurn hs
end

section
/-! Proofs about the rules of the whole machine: the configuration, the history of the tally, the order of the
dispositions and the changes of the station state, by induction over what a command can do. -/

namespace Sys2Proof.Machine

variable {c : Instr} {s t : State}

/-! ## Station state (10.2) -/

theorem Halts.not_enters {k : Condition} {old new : StationState} (h : Halts c k) : ¬ Enters c old new := by
  rintro (⟨rfl, -⟩ | ⟨rfl, -⟩ | ⟨rfl, -⟩ | ⟨rfl, -⟩) <;> simp [Halts, ReadsTally] at h

theorem Halts.not_clears {k : Condition} (h : Halts .clearConditions k) : False := by
  simp [Halts, ReadsTally] at h

/-- The halt-class condition stays recorded through what a halting command does. -/
theorem CondMove.recorded_kept {k : Condition} {u v : ConditionUnit} (m : CondMove c .halted u v) (hc : Halts c k)
    (h : has u.recorded k = true) : has v.recorded k = true := by
  cases m with
  | clearSets hne => exact absurd rfl hne
  | clearFlags m hclear => exact (Halts.not_clears (hclear ▸ hc)).elim
  | releaseDeferred | acknowledge | endService | mask | routing | autoEnd => exact h

theorem occur_recorded_kept {k : Condition} (j : Condition) (d : Detail) (h : has s.cond.recorded k = true) :
    has (occur j d s).cond.recorded k = true := by
  unfold occur
  split
  · exact h
  · simp [occurrence_recorded, h]

/-- What has become of the station state: it is as found, or a request or the own GREETING has changed it, or a halt. -/
def StationMoved (c : Instr) (s t : State) : Prop :=
  t.station.state = s.station.state ∨ Enters c s.station.state t.station.state ∨
    s.station.state.receives = true ∧ t.station.state = .halted ∧
      ∃ k, Halts c k ∧ has t.cond.recorded k = true

theorem StationMoved.congr {u : State} (h : StationMoved c s t) (hst : u.station = t.station)
    (hc : ∀ k, has t.cond.recorded k = true → has u.cond.recorded k = true) : StationMoved c s u := by
  unfold StationMoved at *
  rw [hst]
  rcases h with h | h | ⟨hr, hh, k, hk, hrec⟩
  · exact .inl h
  · exact .inr (.inl h)
  · exact .inr (.inr ⟨hr, hh, k, hk, hc k hrec⟩)

theorem Reach.station_moved (h : Reach c s t) : StationMoved c s t := by
  induction h with
  | start | powerOff => exact .inl rfl
  | occur k d _ ih => exact ih.congr (occur_station ..) fun j => occur_recorded_kept k d
  | cond _ m ih =>
    rcases ih with h | h | ⟨hr, hh, k, hk, hrec⟩
    · exact .inl h
    · exact .inr (.inl h)
    · exact .inr (.inr ⟨hr, hh, k, hk, (hh ▸ m).recorded_kept hk hrec⟩)
  | enter _ hs hin ih => exact .inr (.inl (hs ▸ hin))
  | halt _ hr hk hrec ih =>
    rcases ih with h | h | ⟨-, hh, -⟩
    · exact .inr (.inr ⟨h ▸ hr, rfl, _, hk, hrec⟩)
    · exact absurd h hk.not_enters
    · rw [hh] at hr
      cases hr
  | refresh _ ih => exact ih
  | append _ _ _ _ _ _ _ ih => exact ih
  | reply _ _ _ _ _ _ ih => exact ih
  | _ => assumption

theorem Reach.station_kept (h : Reach c s t) :
    (t.station.lane = s.station.lane ∧ t.station.rate = s.station.rate ∧ t.station.observer = s.station.observer) ∧
      (t.station.powerGood = s.station.powerGood ∨ c = .powerGoodFall) := by
  induction h with
  | start => exact ⟨⟨rfl, rfl, rfl⟩, .inl rfl⟩
  | powerOff hc => exact ⟨⟨rfl, rfl, rfl⟩, .inr hc⟩
  | occur k d _ ih => simpa using ih
  | refresh _ ih => exact ih
  | append _ _ _ _ _ _ _ ih => exact ih
  | reply _ _ _ _ _ _ ih => exact ih
  | _ => assumption

/-! ## Configuration (R101, R102, R153, R178) -/

/-- No command but a reset leads into CONFIGURING. -/
theorem Reach.configuring (h : Reach c s t) (ht : t.station.state = .configuring) :
    s.station.state = .configuring := by
  rcases h.station_moved with h | h | ⟨-, h, -⟩
  · exact h ▸ ht
  · simp [Enters, ht] at h
  · simp [ht] at h

theorem Reach.rules_kept (h : Reach c s t) : t.rules = s.rules ∨
    s.station.state = .configuring ∧ (c = .configureTimes ∨ c = .configureClass ∨ c = .configureRange) := by
  induction h with
  | start | powerOff => exact .inl rfl
  | rules _ hst hc _ _ _ _ => exact .inr ⟨hst, hc⟩
  | occur k d _ ih => simpa using ih
  | refresh _ ih => exact ih
  | append _ _ _ _ _ _ _ ih => exact ih
  | reply _ _ _ _ _ _ ih => exact ih
  | _ => assumption

/-- The three settings of the condition unit. -/
def ConditionUnit.settings (u : ConditionUnit) : CondSet × CondSet × Bool := (u.mask, u.routing, u.autoEnd)

/-- A setting stands as it was, or CONFIGURE has changed it in CONFIGURING. -/
def SettingsKept (c : Instr) (st : StationState) (u v : ConditionUnit) : Prop :=
  (v.mask = u.mask ∨ st = .configuring ∧ c = .configureMask) ∧
    (v.routing = u.routing ∨ st = .configuring ∧ c = .configureStopRouting) ∧
    (v.autoEnd = u.autoEnd ∨ st = .configuring ∧ c = .configureAutomaticEnd)

theorem SettingsKept.trans {st : StationState} {u v w : ConditionUnit} (h : SettingsKept c st u v)
    (hvw : SettingsKept c st v w) : SettingsKept c st u w := by
  obtain ⟨hm, hr, ha⟩ := h
  obtain ⟨hm', hr', ha'⟩ := hvw
  refine ⟨?_, ?_, ?_⟩
  · exact hm'.elim (fun e => e ▸ hm) .inr
  · exact hr'.elim (fun e => e ▸ hr) .inr
  · exact ha'.elim (fun e => e ▸ ha) .inr

theorem SettingsKept.of_eq {st : StationState} {u v : ConditionUnit} (h : v.settings = u.settings) :
    SettingsKept c st u v := by
  simp only [ConditionUnit.settings, Prod.mk.injEq] at h
  obtain ⟨hm, hr, ha⟩ := h
  exact ⟨.inl hm, .inl hr, .inl ha⟩

theorem occurrence_settings (u : ConditionUnit) (k : Condition) (d : Detail) (a : Action) :
    (u.occurrence k d a).settings = u.settings := by
  change (u.takeAction k d a).settings = u.settings
  rcases takeAction_cases u k d a with h | h | h | h <;> rw [h] <;> rfl

theorem CondMove.settings {st st₀ : StationState} {u v : ConditionUnit} (m : CondMove c st u v)
    (hst : st = .configuring → st₀ = .configuring) : SettingsKept c st₀ u v := by
  cases m with
  | mask m hc hconf => exact ⟨.inr ⟨hst hconf, hc⟩, .inl rfl, .inl rfl⟩
  | routing m hc hconf => exact ⟨.inl rfl, .inr ⟨hst hconf, hc⟩, .inl rfl⟩
  | autoEnd b hc hconf => exact ⟨.inl rfl, .inl rfl, .inr ⟨hst hconf, hc⟩⟩
  | releaseDeferred | clearSets | acknowledge | endService | clearFlags => exact .of_eq rfl

theorem Reach.settings_kept (h : Reach c s t) : SettingsKept c s.station.state s.cond t.cond := by
  induction h with
  | start | powerOff => exact .of_eq rfl
  | cond hu m ih => exact ih.trans (m.settings hu.configuring)
  | occur k d _ ih =>
    refine ih.trans ?_
    unfold Machine.occur
    split
    · exact .of_eq rfl
    · exact .of_eq (occurrence_settings ..)
  | refresh _ ih => exact ih.trans (.of_eq rfl)
  | append _ _ _ _ _ _ _ ih => exact ih
  | reply _ _ _ _ _ _ ih => exact ih
  | _ => assumption

/-- A watch list of as many entries, each as it was but for its hits, which have not fallen. -/
def HitsOnly (l m : List WatchEntry) : Prop :=
  m.length = l.length ∧ ∀ (i : Nat) (w x : WatchEntry), l[i]? = some w → m[i]? = some x →
    x = { w with hits := x.hits } ∧ (w.hits ≤ 255 → w.hits ≤ x.hits ∧ x.hits ≤ 255)

theorem HitsOnly.refl (l : List WatchEntry) : HitsOnly l l :=
  ⟨rfl, fun i w x hw hx => by
    cases hw.symm.trans hx
    exact ⟨rfl, fun h => ⟨Nat.le_refl _, h⟩⟩⟩

theorem HitsOnly.addHit {l m : List WatchEntry} (h : HitsOnly l m) (j : Nat) : HitsOnly l (addHit m j) := by
  obtain ⟨hlen, hentry⟩ := h
  refine ⟨by simpa [Machine.addHit] using hlen, fun i w x hw hx => ?_⟩
  rw [Machine.addHit, List.getElem?_modify, Option.map_eq_map, Option.map_eq_some_iff] at hx
  obtain ⟨y, hy, rfl⟩ := hx
  obtain ⟨hsame, hhits⟩ := hentry i w y hw hy
  split
  · refine ⟨by rw [hsame], fun hw => ?_⟩
    have := hhits hw
    dsimp only [Function.id_def]
    omega
  · exact ⟨hsame, hhits⟩

theorem Reach.watch_hitsOnly (h : Reach c s t) (hload : c ≠ .loadWatchEntry) : HitsOnly s.watch t.watch := by
  induction h with
  | start | powerOff => exact .refl _
  | hit i _ ih => exact ih.addHit i
  | load i w _ hc _ => exact absurd hc hload
  | occur k d _ ih => simpa using ih
  | refresh _ ih => exact ih
  | append _ _ _ _ _ _ _ ih => exact ih
  | reply _ _ _ _ _ _ ih => exact ih
  | _ => assumption

/-! ## The history of the tally (R11, R17 to R19) -/

/-- An entry `e` has become `x`: its count has not fallen, its reference mass stays, and it has become CERTAIN only where
that is allowed. -/
structure Grows (may : TitleKey → Prop) (e x : Entry) : Prop where
  key : x.key = e.key
  count : e.count ≤ x.count
  mass : ∀ m, e.refMass = some m → x.refMass = some m
  certain : x.certainty = .certain → e.certainty = .certain ∨ may x.key

/-- Where no window expires no entry becomes CERTAIN. -/
def Never : TitleKey → Prop := fun _ => False

section
variable {may : TitleKey → Prop} {e x y : Entry}

theorem Grows.refl (e : Entry) : Grows may e e := ⟨rfl, Nat.le_refl _, fun _ h => h, .inl⟩

theorem Grows.trans (h : Grows may e x) (hxy : Grows Never x y) : Grows may e y where
  key := hxy.key.trans h.key
  count := Nat.le_trans h.count hxy.count
  mass m hm := hxy.mass m (h.mass m hm)
  certain hy := (hxy.certain hy).elim (fun hx => hxy.key ▸ h.certain hx) False.elim

/-- Each entry has grown from an entry of the table found, or its title is new and UNSURE. -/
def History (may : TitleKey → Prop) (old new : List Entry) : Prop :=
  ∀ x ∈ new, (∃ e ∈ old, Grows may e x) ∨ x.key ∉ old.map Entry.key ∧ x.certainty = .unsure

theorem History.refl (old : List Entry) : History may old old := fun x hx => .inl ⟨x, hx, .refl x⟩

theorem History.trans {old new more : List Entry} (h : History may old new)
    (hmore : ∀ x ∈ more, ∃ e ∈ new, Grows Never e x) : History may old more := by
  intro x hx
  obtain ⟨e, he, hd⟩ := hmore x hx
  rcases h e he with ⟨e₀, he₀, hd₀⟩ | ⟨hnew, hunsure⟩
  · exact .inl ⟨e₀, he₀, hd₀.trans hd⟩
  · refine .inr ⟨hd.key ▸ hnew, ?_⟩
    cases hx : x.certainty with
    | unsure => rfl
    | certain => exact (hd.certain hx).elim (fun he => by rw [hunsure] at he; cases he) False.elim

/-- A touched entry in front, the others as they stand. -/
theorem exists_grows_putFirst {t : List Entry} (he : e ∈ t) (hx : Grows may e x) :
    ∀ y ∈ putFirst t x, ∃ z ∈ t, Grows may z y := by
  intro y hy
  rcases List.mem_cons.1 hy with rfl | hy
  · exact ⟨e, he, hx⟩
  · exact ⟨y, (List.mem_filter.1 hy).1, .refl y⟩

theorem exists_grows_refl (t : List Entry) : ∀ x ∈ t, ∃ e ∈ t, Grows may e x := fun x hx => ⟨x, hx, .refl x⟩

/-- An entry created in the room of the table found. -/
theorem History.create {r : Rules} {t room : List Entry} (hroom : makeRoom r t = .ok room) (hlen : t.length ≤ 512)
    (hnew : findEntry t x.key = none) (hunsure : x.certainty = .unsure) : History may t (x :: room) := by
  intro y hy
  rcases List.mem_cons.1 hy with rfl | hy
  · exact .inr ⟨not_mem_keys_of_findEntry hnew, hunsure⟩
  · exact .inl ⟨y, (makeRoom_sublist hroom hlen).1.subset hy, .refl y⟩

theorem adoptMass_some {held heard : Option Nat} {m : Nat} (h : held = some m) : adoptMass held heard = some m := by
  simp [h, adoptMass_eq]

theorem le_claimResult {a b : Nat} (h : a ≤ 63) : a ≤ claimResult a b := by
  simp only [claimResult, Config.maxCount]
  omega

end

/-- What has become of the tally found. -/
def TallyHistoryKept (c : Instr) (s t : Tally) : Prop :=
  History (fun k => c = .inquiryWindowExpiry k) s.table t.table ∧
    (t.epoch = s.epoch ∨ ∀ x ∈ t.table, x.certainty = .unsure)

section
variable {old t u : Tally} {r : Rules}

/-- A move that leaves the epoch and makes no title, none of whose entries becomes CERTAIN. -/
theorem TallyHistoryKept.trans (h : TallyHistoryKept c old t) (hepoch : u.epoch = t.epoch)
    (hu : ∀ x ∈ u.table, ∃ e ∈ t.table, Grows Never e x) : TallyHistoryKept c old u := by
  obtain ⟨hhist, hcert⟩ := h
  refine ⟨hhist.trans hu, hcert.imp hepoch.trans fun hunsure x hx => ?_⟩
  obtain ⟨e, he, hg⟩ := hu x hx
  cases hxc : x.certainty with
  | unsure => rfl
  | certain => exact (hg.certain hxc).elim (fun hec => by rw [hunsure e he] at hec; cases hec) False.elim

theorem TallyMove.history (m : TallyMove c r old t u) (ht : t.sound) (h : TallyHistoryKept c old t) :
    TallyHistoryKept c old u := by
  obtain ⟨hlen, -, hcounts⟩ := ht
  cases m with
  | unpin k =>
    refine h.trans rfl fun x hx => ?_
    obtain ⟨hmem, -⟩ := List.mem_filter.1 hx
    obtain ⟨e, he, rfl⟩ := List.mem_map.1 hmem
    refine ⟨e, he, ?_⟩
    split
    · exact ⟨rfl, Nat.le_refl _, fun _ h => h, .inl⟩
    · exact .refl e
  | touch hok =>
    refine h.trans rfl ?_
    rcases touchEntry_cases hok with ⟨e, hf, -, heq⟩ | ⟨-, heq⟩ <;> cases heq
    · exact exists_grows_putFirst (mem_of_findEntry hf) (.refl e)
    · exact exists_grows_refl _
  | answer hok =>
    refine h.trans rfl ?_
    rcases mergeAnswer_cases hok with ⟨e, hf, heq⟩ | ⟨-, heq⟩ <;> simp only [heq]
    · exact exists_grows_putFirst (mem_of_findEntry hf) ⟨rfl, Nat.le_max_left _ _, fun _ => adoptMass_some, .inl⟩
    · exact exists_grows_refl _
  | lookup horigin hok =>
    subst horigin
    rcases lookup_cases hok with ⟨e, hf, heq⟩ | ⟨room, hf, hroom, heq⟩ <;> cases heq
    · refine h.trans rfl (exists_grows_putFirst (mem_of_findEntry hf) ?_)
      exact ⟨rfl, Nat.le_refl _, fun _ h => h, .inl⟩
    · exact ⟨.create hroom hlen hf rfl, .inl rfl⟩
  | claim horigin hok =>
    subst horigin
    rcases applyClaim_cases hok with ⟨e, hf, heq, -⟩ | ⟨room, hf, hroom, heq, -⟩
    · refine h.trans rfl ?_
      simp only [heq]
      have he := mem_of_findEntry hf
      exact exists_grows_putFirst he ⟨rfl, le_claimResult (hcounts e he).1, fun _ => adoptMass_some, .inl⟩
    · exact ⟨heq ▸ .create hroom hlen hf rfl, .inl rfl⟩
  | correction horigin hok =>
    subst horigin
    rcases applyCorrection_cases hok with ⟨e, hf, heq⟩ | ⟨-, -, heq⟩ | ⟨room, hf, -, hroom, heq⟩
    · refine h.trans rfl ?_
      simp only [heq]
      exact exists_grows_putFirst (mem_of_findEntry hf) ⟨rfl, Nat.le_max_left _ _, fun _ h => h, .inl⟩
    · exact ⟨heq ▸ .refl _, .inl rfl⟩
    · exact ⟨heq ▸ .create hroom hlen hf rfl, .inl rfl⟩
  | certain k horigin hc =>
    subst horigin
    refine ⟨fun x hx => .inl ?_, .inl rfl⟩
    rcases makeCertain_cases t.table k with ⟨e, hf, heq⟩ | heq <;> simp only [heq] at hx
    · refine exists_grows_putFirst (mem_of_findEntry hf) ?_ x hx
      exact ⟨rfl, Nat.le_refl _, fun _ h => h, fun _ => .inr (key_of_findEntry hf ▸ hc)⟩
    · exact ⟨x, hx, .refl x⟩
  | epoch =>
    obtain ⟨hhist, -⟩ := h
    have hunsure : ∀ x ∈ t.advanceEpoch.table, x.certainty = .unsure := List.forall_mem_map.2 fun _ _ => rfl
    refine ⟨hhist.trans fun x hx => ?_, .inr hunsure⟩
    obtain ⟨e, he, rfl⟩ := List.mem_map.1 hx
    exact ⟨e, he, rfl, Nat.le_refl _, fun _ h => h, fun hc => by cases hc⟩

end

theorem Reach.tally_history (hs : s.tally.sound) (h : Reach c s t) : TallyHistoryKept c s.tally t.tally := by
  induction h with
  | start | powerOff => exact ⟨.refl _, .inl rfl⟩
  | tally hu m ih => exact m.history (hu.tally_sound hs) ih
  | occur k d _ ih => exact (occur_tally _ k d).symm ▸ ih
  | refresh _ ih => exact ih
  | append _ _ _ _ _ _ _ ih => exact ih
  | reply _ _ _ _ _ _ ih => exact ih
  | _ => assumption

/-! ## The order of the dispositions (R27, R49, R50) -/

/-- The tags that the DISPOSITION records of an output stream carry, in order. -/
def dispositionTags (out : List OutRecord) : List (Option Byte) :=
  (out.filter OutRecord.isDisposition).map fun o => o.payload.head?

theorem dispositionTags_append (out more : List OutRecord) :
    dispositionTags (out ++ more) = dispositionTags out ++ dispositionTags more := by
  simp [dispositionTags]

theorem dispositionTags_reply (r : Request) (res : ResultCode) (bs : List Byte) :
    dispositionTags [replyRecord r res bs] = [] := rfl

theorem dispositionTags_released (l : List Item) : dispositionTags (l.map dispositionRecord) = (l.map Item.tag).map some := by
  induction l with
  | nil => rfl
  | cons it l ih =>
    rw [List.map_cons, ← List.singleton_append, dispositionTags_append, ih]
    rfl

/-- What a command has added to the queue and what it has released account for every tag. -/
def Accounted (c : Instr) (s t : State) : Prop :=
  ∃ added released : List Byte,
    s.arrival.items.map Item.tag ++ added = released ++ t.arrival.items.map Item.tag ∧
    (added = [] ∨ c = .present ∧ added = [s.arrival.nextTag]) ∧
    dispositionTags t.port.output = dispositionTags s.port.output ++ released.map some

theorem Accounted.congr {u : State} (h : Accounted c s t) (hi : u.arrival.items.map Item.tag = t.arrival.items.map Item.tag)
    (ho : dispositionTags u.port.output = dispositionTags t.port.output) : Accounted c s u := by
  obtain ⟨added, released, htags, hadded, hout⟩ := h
  exact ⟨added, released, hi ▸ htags, hadded, ho ▸ hout⟩

theorem Accounted.release (h : Accounted c s t) : Accounted c s (releaseQueue t) := by
  obtain ⟨added, released, htags, hadded, hout⟩ := h
  obtain ⟨gone, hitems, houtput, -⟩ := releaseHead_spec t.arrival.items t.port.output
  refine ⟨added, released ++ gone.map Item.tag, ?_, hadded, ?_⟩
  · change _ = released ++ gone.map Item.tag ++ (releaseHead t.arrival.items t.port.output).1.map Item.tag
    rw [htags, List.append_assoc, ← List.map_append, ← hitems]
  · change dispositionTags (releaseHead t.arrival.items t.port.output).2 = _
    rw [houtput, dispositionTags_append, hout, dispositionTags_released, List.map_append, List.append_assoc]

theorem Reach.accounted (h : Reach c s t) (hsent : c ≠ .outputRecordSent) : Accounted c s t := by
  have start : Accounted c s s := ⟨[], [], by simp, .inl rfl, by simp⟩
  induction h with
  | start | powerOff => exact start
  | items f belt _ hf ih =>
    refine ih.congr ?_ rfl
    change (List.map f _).map Item.tag = _
    rw [List.map_map]
    exact List.map_congr_left fun it _ => hf it
  | append it _ hc harr hout _ htag _ =>
    refine ⟨[s.arrival.nextTag], [], ?_, .inr ⟨hc, rfl⟩, ?_⟩
    · simp [appendItem, htag, harr]
    · simp [appendItem, hout]
  | release _ ih => exact ih.release
  | assemble _ _ ho _ ih => exact ih.congr rfl (congrArg dispositionTags ho)
  | sent _ hc _ _ _ _ => exact absurd hc hsent
  | buffered _ _ _ ho _ ih => exact ih.congr rfl (congrArg dispositionTags ho)
  | reply r res bs _ _ _ ih =>
    refine ih.congr rfl ?_
    change dispositionTags (_ ++ [replyRecord r res bs]) = _
    rw [dispositionTags_append, dispositionTags_reply, List.append_nil]
  | cleared r _ _ _ ho _ ih =>
    refine ih.congr rfl ?_
    rw [State.setPort_port, ho, dispositionTags_append, dispositionTags_reply, List.append_nil]
  | occur k d _ ih => exact ih.congr (by rw [occur_arrival]) (by rw [occur_port])
  | refresh _ ih => exact ih
  | _ => assumption

/-- What LANE RESET keeps of the configuration (R102, R178, R195). -/
theorem laneReset_configuration (s : State) :
    (laneReset s).rules = s.rules ∧ (laneReset s).cond.settings = s.cond.settings :=
  laneReset_keeps (P := fun u => u.rules = s.rules ∧ u.cond.settings = s.cond.settings) ⟨rfl, rfl⟩ fun hs => by
    rw [laneReset_of_live hs]
    exact ⟨rfl, rfl⟩

end Sys2Proof.Machine

open Sys2Proof Sys2Proof.Machine

/-- Settles O58, by induction over what a command can do to the rule unit, the condition unit and the watch list. -/
theorem configurationFixed : Obligations.ConfigurationFixed := by
  unfold Obligations.ConfigurationFixed
  intro c s t h hrise
  have watch (hload : c ≠ .laneReset → c ≠ .loadWatchEntry → HitsOnly s.watch t.watch) :
      c ≠ .laneReset → c ≠ .loadWatchEntry → t.watch.length = s.watch.length ∧
        ∀ (i : Nat) (w x : WatchEntry), s.watch[i]? = some w → t.watch[i]? = some x →
          x = { w with hits := x.hits } ∧ (w.hits ≤ 255 → w.hits ≤ x.hits) := fun hl hw => by
    obtain ⟨hlen, hentry⟩ := hload hl hw
    exact ⟨hlen, fun i w x hi hx => ⟨(hentry i w x hi hx).1, fun hle => ((hentry i w x hi hx).2 hle).1⟩⟩
  by_cases hl : c = .laneReset
  · subst hl
    cases h
    have kept : (powered laneReset s).rules = s.rules ∧ (powered laneReset s).cond.settings = s.cond.settings :=
      powered_keeps (P := fun u => u.rules = s.rules ∧ u.cond.settings = s.cond.settings) ⟨rfl, rfl⟩
        fun _ => laneReset_configuration s
    obtain ⟨hm, hr, ha⟩ := SettingsKept.of_eq (c := .laneReset) (st := s.station.state) kept.2
    exact ⟨.inl kept.1, hm, hr, ha, fun hne => absurd rfl hne⟩
  · have reached := exec_reach h hrise hl
    obtain ⟨hm, hr, ha⟩ := reached.settings_kept
    exact ⟨reached.rules_kept, hm, hr, ha, watch fun _ hload => reached.watch_hitsOnly hload⟩

/-- Settles O59, by induction over what a command can do to the tally. -/
theorem tallyHistory : Obligations.TallyHistory := by
  unfold Obligations.TallyHistory
  intro c s t h hrise hl hs
  have reached := exec_reach h hrise hl
  obtain ⟨hhist, hepoch⟩ := reached.tally_history hs
  obtain ⟨-, hkeys, -⟩ := hs
  refine ⟨fun e he x hx hkey => ?_, fun x hx hcertain => ?_, hepoch⟩
  · rcases hhist x hx with ⟨e₀, he₀, hg⟩ | ⟨hnew, -⟩
    · obtain rfl : e₀ = e := List.inj_on_of_nodup_map hkeys he₀ he (hg.key.symm.trans hkey)
      exact ⟨hg.count, hg.mass⟩
    · exact absurd (List.mem_map.2 ⟨e, he, hkey.symm⟩) hnew
  · rcases hhist x hx with ⟨e₀, he₀, hg⟩ | ⟨-, hunsure⟩
    · exact (hg.certain hcertain).imp (fun hc => ⟨e₀, he₀, hg.key.symm, hc⟩) id
    · rw [hunsure] at hcertain
      cases hcertain

/-- Settles O60, by induction over what a command can do to the queue and to the output stream. -/
theorem dispositionsInOrder : Obligations.DispositionsInOrder := by
  unfold Obligations.DispositionsInOrder
  intro c s t h hrise hl hsent
  exact (exec_reach h hrise hl).accounted hsent
end

section
/-! Proofs about HALTED: what no command but a reset does there (R6, R25, R80, R136, R169, R186). -/

namespace Sys2Proof.Machine

variable {c : Instr} {s t u : State}

/-- What a halted station with nothing in transmission keeps. -/
structure Still (s t : State) : Prop where
  state : t.station.state = .halted
  tally : t.tally = s.tally
  claim : t.claim = s.claim
  inquiry : t.inquiry = s.inquiry
  rules : t.rules = s.rules
  watch : t.watch = s.watch
  line : t.line = { s.line with receiver := t.line.receiver, idle := t.line.idle }
  stopped : s.line.receiver = .stopped → t.line = s.line
  queue : t.access.queue = []
  unit : t.access.unit ≠ .sending
  items : ∃ released, s.arrival.items = released ++ t.arrival.items

theorem Still.refl (hs : s.station.state = .halted) (hq : s.access.queue = []) (hu : s.access.unit ≠ .sending) :
    Still s s :=
  ⟨hs, rfl, rfl, rfl, rfl, rfl, rfl, fun _ => rfl, hq, hu, [], rfl⟩

/-- What moves the condition unit, the lane port, the clock and the free values alone. -/
theorem Still.of_blocks (h : Still s t) (hst : u.station = t.station) (htally : u.tally = t.tally)
    (hclaim : u.claim = t.claim) (hinquiry : u.inquiry = t.inquiry) (hrules : u.rules = t.rules)
    (hwatch : u.watch = t.watch) (hline : u.line = t.line) (haccess : u.access = t.access)
    (harrival : u.arrival = t.arrival) : Still s u := by
  obtain ⟨s1, s2, s3, s4, s5, s6, s7, s8, s9, s10, s11⟩ := h
  exact ⟨hst ▸ s1, htally.trans s2, hclaim.trans s3, hinquiry.trans s4, hrules.trans s5, hwatch.trans s6, hline ▸ s7,
    hline ▸ s8, haccess ▸ s9, haccess ▸ s10, harrival ▸ s11⟩

theorem Still.access (h : Still s t) {a : LineAccess} (hq : a.queue = []) (hu : a.unit ≠ .sending) :
    Still s (t.setAccess a) := by
  obtain ⟨s1, s2, s3, s4, s5, s6, s7, s8, -, -, s11⟩ := h
  exact ⟨s1, s2, s3, s4, s5, s6, s7, s8, hq, hu, s11⟩

theorem Still.refresh (h : Still s t) : Still s (refresh t) := by
  obtain ⟨hqueue, hsending, -⟩ := restUnit_spec t.station.state t.access
  exact Still.access (t := t.setCond (t.cond.drive t.station)) (h.of_blocks rfl rfl rfl rfl rfl rfl rfl rfl rfl) (hqueue.trans h.queue) (mt hsending.1 h.unit)

theorem Still.occur (h : Still s t) (k : Condition) (d : Detail) : Still s (occur k d t) :=
  h.of_blocks (occur_station ..) (occur_tally ..) (occur_claim ..) (occur_inquiry ..) (occur_rules ..) (occur_watch ..)
    (occur_line ..) (occur_access ..) (occur_arrival ..)

/-- The receiver moves, unless it is stopped. -/
theorem Still.receiver (h : Still s s) {r : Receiver} (n : Nat) (hr : s.line.receiver ≠ .stopped) :
    Still s (s.setLine { s.line with receiver := r, idle := n }) := by
  obtain ⟨s1, s2, s3, s4, s5, s6, -, -, s9, s10, s11⟩ := h
  exact ⟨s1, s2, s3, s4, s5, s6, rfl, fun hs => absurd hs hr, s9, s10, s11⟩

theorem Still.finishClearWork (h : Still s t) : Still s (finishClearWork t) := by
  unfold Machine.finishClearWork
  split
  · dsimp only
    split <;> split <;> exact h.of_blocks rfl rfl rfl rfl rfl rfl rfl rfl rfl
  · exact h

theorem Still.releaseItems (h : Still s t) : Still s (releaseItems t) := by
  obtain ⟨gone, hgone, -⟩ := releaseHead_spec t.arrival.items t.port.output
  obtain ⟨s1, s2, s3, s4, s5, s6, s7, s8, s9, s10, released, hitems⟩ := h
  have left : Still s (releaseQueue t) :=
    ⟨s1, s2, s3, s4, s5, s6, s7, s8, s9, s10, released ++ gone, by
      rw [hitems, List.append_assoc]
      exact congrArg _ hgone⟩
  unfold Machine.releaseItems
  refine Still.finishClearWork ?_
  dsimp only
  split
  · exact left.of_blocks rfl rfl rfl rfl rfl rfl rfl rfl rfl
  · exact left

theorem Still.answer (h : Still s t) (r : Request) (res : ResultCode) (bs : List Byte) :
    Still s (answerRequest r res bs t) := h.of_blocks rfl rfl rfl rfl rfl rfl rfl rfl rfl

/-- A served command that a halted station refuses, or that changes nothing but the condition unit and the reply. -/
theorem Still.serve (h : Still s s) {row : RequestRow} {taken : StationState → Bool} {take : Request → State → State}
    (act : ∀ r, taken .halted = true → Still s (take r s)) : Still s (serve row taken take s) :=
  serve_keeps h (fun r res _ _ => h.answer r res []) fun r _ _ ht => act r (h.state ▸ ht)

/-- A halted station does not halt again. -/
theorem Still.memoryFault (h : Still s t) (k : TitleKey) : Still s (memoryFault k t) := by
  have occurred := Still.occur (s := s) (t := t.setDraws (t.draws + 1)) (h.of_blocks rfl rfl rfl rfl rfl rfl rfl rfl rfl)
    .tallyMemoryFault
    { condition := .tallyMemoryFault, source := .station
      title := (Config.keyAsFarAsRead t.draws k).map fun read => portKey { digits := read.1.toList, part := read.2 } }
  unfold Machine.memoryFault haltOccurrence enterHalted
  rw [occurred.state]
  exact occurred

section
variable (h : s.station.state = .halted)
include h

theorem receives_of_halted : s.station.state.receives = false := by rw [h]; rfl

theorem transmits_of_halted : s.station.state.transmits = false := by rw [h]; rfl

theorem handleFrame_of_halted (own : Bool) (kind : FrameKind) (f : StoredFrame → State → State) :
    handleFrame own kind f s = s := by
  simp [handleFrame, frameFor, receives_of_halted h]

theorem receiverHears_of_halted : receiverHears s = false := by simp [receiverHears, receives_of_halted h]

theorem idlePasses_of_halted : idlePasses s = false := by simp [idlePasses, receives_of_halted h]

theorem readyCandidate_of_halted (n : Nat) : readyCandidate n s = none := by
  simp [readyCandidate, mayBegin, transmits_of_halted h]

end

theorem jamEnd_still (h : Still s s) : Still s (jamEnd s) := by
  have hnone : s.access.inFlightEntry = none := by simp [LineAccess.inFlightEntry, h.queue]
  unfold jamEnd
  split
  · simp only [hnone]
    exact Still.refresh (h.access h.queue (by simp))
  · exact h

theorem exec_still (hs : Still s s) (h : exec c s = .next t) (hrise : ∀ l q o, c ≠ .powerGoodRise l q o)
    (hreset : c ≠ .laneReset) : Still s t := by
  have halted := hs.state
  have nofault := receives_of_halted halted
  have still := transmits_of_halted halted
  have hears := receiverHears_of_halted halted
  have idles := idlePasses_of_halted halted
  have notSending : (s.access.unit == .sending) = false := beq_eq_false_iff_ne.2 hs.unit
  cases c
  case powerGoodRise l q o => exact absurd rfl (hrise l q o)
  case laneReset => exact absurd rfl hreset
  all_goals cases h
  case powerGoodFall =>
    refine powered_keeps hs fun _ => ?_
    obtain ⟨s1, s2, s3, s4, s5, s6, s7, s8, s9, -, s11⟩ := hs
    exact ⟨s1, s2, s3, s4, s5, s6, s7, s8, s9, nofun, s11⟩
  case requestComplete =>
    refine powered_keeps hs fun _ => ?_
    unfold requestComplete
    split
    · exact hs
    · dsimp only
      split
      · exact hs.of_blocks rfl rfl rfl rfl rfl rfl rfl rfl rfl
      · refine Still.refresh (Still.occur ?_ _ _)
        exact hs.of_blocks rfl rfl rfl rfl rfl rfl rfl rfl rfl
  case requestGapTimeout | lanePortFramingError | requestCharacterReceived | outputRecordSent =>
    exact powered_keeps hs fun _ => hs.of_blocks rfl rfl rfl rfl rfl rfl rfl rfl rfl
  case dwellClockTick belt =>
    refine powered_keeps hs fun _ => ?_
    have hitems : (dwellClockTick belt s).arrival.items = s.arrival.items := by simp [dwellClockTick, halted]
    obtain ⟨s1, s2, s3, s4, s5, s6, s7, s8, s9, s10, -⟩ := hs
    exact ⟨s1, s2, s3, s4, s5, s6, s7, s8, s9, s10, [], hitems.symm⟩
  case unknownRequest | readRoster | readStatus => exact hs.serve fun r _ => hs.answer r _ _
  case present | configureTimes | configureClass | configureRange | configureMask | configureAutomaticEnd
      | configureStopRouting | commence | pause | resume | clearWork | loadWatchEntry | clearConditions =>
    exact hs.serve fun _ ht => nomatch ht
  case readItem =>
    refine hs.serve fun r _ => ?_
    split <;> exact hs.answer ..
  case readCondition =>
    refine hs.serve fun r _ => ?_
    split
    · exact hs.answer ..
    · split
      · exact hs.of_blocks rfl rfl rfl rfl rfl rfl rfl rfl rfl
      · exact hs.answer ..
  case ackAttention | endAttention =>
    refine hs.serve fun r _ => ?_
    split
    · exact hs.answer ..
    · exact Still.refresh (hs.of_blocks rfl rfl rfl rfl rfl rfl rfl rfl rfl)
  case readEntry =>
    refine hs.serve fun r _ => ?_
    dsimp only
    split
    · exact hs.answer ..
    · split
      · exact hs.answer ..
      · exact ((hs.answer ..).memoryFault _).refresh
  case dispositionRelease => exact powered_keeps hs fun _ => hs.releaseItems.refresh
  case headerReceived b n => simpa [headerReceived, hears] using hs
  case payloadCharacterReceived b n => simpa [payloadCharacterReceived, hears] using hs
  case dockFramingError => simpa [dockFramingError, hears] using hs
  case lineBreak => simpa [lineBreak, hears] using hs
  case startBitSeen =>
    refine powered_keeps hs fun _ => ?_
    unfold startBitSeen
    split
    · rename_i hr
      exact hs.receiver 0 (by simp [beq_iff_eq.1 hr])
    · exact hs
  case breakEnd =>
    refine powered_keeps hs fun _ => ?_
    unfold breakEnd
    split
    · rename_i hr
      exact hs.receiver 0 (by simp [beq_iff_eq.1 hr])
    · exact hs
  case highLineWaitEnd =>
    refine powered_keeps hs fun _ => ?_
    unfold highLineWaitEnd
    split
    · rename_i hr
      exact hs.receiver 0 (by simp [beq_iff_eq.1 hr])
    · exact hs
  case truncation =>
    unfold truncation
    split
    · exact hs
    · rwa [if_neg (by simp [idles])]
  case discardConfirmed =>
    unfold discardConfirmed
    split
    · exact hs
    · rwa [if_neg (by simp [idles])]
  case peerFrameComplete =>
    unfold peerFrameComplete
    split
    · exact hs
    · rwa [if_neg (by simp [nofault])]
  case peerClaim | peerCorrection | peerAnswer | peerInquiry | peerGreeting | ownClaimApplied | ownCorrectionApplied
      | ownAnswerMerged | ownInquiryHandled | ownGreetingHandled =>
    exact (handleFrame_of_halted halted ..).symm ▸ hs
  case duplicateLane => simpa [duplicateLane, nofault] using hs
  case attemptStart n => simpa [attemptStart, readyCandidate_of_halted halted] using hs
  case ownFrameCompletion =>
    unfold ownFrameCompletion
    split
    · exact hs
    · rwa [if_neg (by simp [notSending])]
  case collision => simpa [collision, notSending] using hs
  case jamEnd => exact jamEnd_still hs
  case deadlineExpiry tag =>
    refine powered_keeps hs fun _ => ?_
    unfold deadlineExpiry
    split
    · exact hs
    · rwa [if_neg (by simp [still])]
  case settleExpiry tag =>
    refine powered_keeps hs fun _ => ?_
    unfold settleExpiry
    split
    · exact hs
    · rwa [if_neg (by simp [still])]
  case inquiryWindowExpiry k =>
    refine powered_keeps hs fun _ => ?_
    unfold inquiryWindowExpiry
    split
    · exact hs
    · rwa [if_neg (by simp [still])]
  case answerHoldOffExpiry l k => exact powered_keeps hs fun _ => by simpa [answerHoldOffExpiry, still] using hs
  case correctionHoldOffExpiry l q =>
    refine powered_keeps hs fun _ => ?_
    unfold correctionHoldOffExpiry
    split
    · exact hs
    · rwa [if_neg (by simp [halted]), if_neg (by simp [still])]
  case greetingRequeueExpiry => exact powered_keeps hs fun _ => by simpa [greetingRequeueExpiry, halted] using hs

/-! ## LANE RESET -/

theorem powered_laneReset_station (s : State) :
    (powered laneReset s).station.lane = s.station.lane ∧ (powered laneReset s).station.rate = s.station.rate ∧
      (powered laneReset s).station.observer = s.station.observer ∧
      (powered laneReset s).station.powerGood = s.station.powerGood ∧
      ((powered laneReset s).station.state ≠ s.station.state →
        s.station.state ≠ .strapFault ∧ (powered laneReset s).station.state = .configuring) := by
  refine powered_keeps (P := fun u => u.station.lane = s.station.lane ∧ u.station.rate = s.station.rate ∧
    u.station.observer = s.station.observer ∧ u.station.powerGood = s.station.powerGood ∧
      (u.station.state ≠ s.station.state → s.station.state ≠ .strapFault ∧ u.station.state = .configuring))
    ⟨rfl, rfl, rfl, rfl, fun h => absurd rfl h⟩ fun _ => ?_
  by_cases hs : s.station.state = .strapFault
  · rw [laneReset, if_pos (by simp [hs])]
    exact ⟨rfl, rfl, rfl, rfl, fun h => absurd rfl h⟩
  · rw [laneReset_of_live hs]
    exact ⟨rfl, rfl, rfl, rfl, fun _ => ⟨hs, rfl⟩⟩

end Sys2Proof.Machine

open Sys2Proof Sys2Proof.Machine

/-- Settles O57: the changes by induction over what a command can do to the station, HALTED command by command. -/
theorem stationStateChanges : Obligations.StationStateChanges := by
  unfold Obligations.StationStateChanges
  intro c s t h hrise
  by_cases hl : c = .laneReset
  · subst hl
    cases h
    obtain ⟨hlane, hrate, hrole, hpower, hstate⟩ := powered_laneReset_station s
    exact ⟨⟨hlane, hrate, hrole⟩, .inl hpower, fun hne => .inl ⟨rfl, hstate hne⟩, fun _ _ _ hne => absurd rfl hne⟩
  · have reached := exec_reach h hrise hl
    obtain ⟨hstraps, hpower⟩ := reached.station_kept
    refine ⟨hstraps, hpower, fun hne => ?_, fun hs hq hu _ => ?_⟩
    · rcases reached.station_moved with heq | henters | ⟨hr, hh, k, ⟨hc, rfl⟩ | ⟨rfl, hc⟩, hrec⟩
      · exact absurd heq hne
      · rcases henters with hc | hc | hc | ⟨hc, hold | hold, hnew⟩
        · exact .inr (.inl hc)
        · exact .inr (.inr (.inl hc))
        · exact .inr (.inr (.inr (.inl hc)))
        · exact absurd (hnew.trans hold.symm) hne
        · exact .inr (.inr (.inr (.inr (.inl ⟨hc, hold, hnew⟩))))
      · exact .inr (.inr (.inr (.inr (.inr ⟨hr, hh, .inl ⟨hc, hrec⟩⟩))))
      · exact .inr (.inr (.inr (.inr (.inr ⟨hr, hh, .inr ⟨hrec, hc⟩⟩))))
    · obtain ⟨s1, s2, s3, s4, s5, s6, s7, s8, s9, s10, s11⟩ := exec_still (.refl hs hq hu) h hrise hl
      exact ⟨s1, s2, s3, s4, s5, s6, s7, s8, s9, s10, s11⟩
end

section
/-! Proofs about POWER GOOD, LANE RESET, one step, one reference period, and the refresh. -/

namespace Sys2Proof.Machine

variable {s t : State}

/-! ## Units without flags -/

theorem detail_of_empty (u : ConditionUnit) (h : u.details = List.replicate 16 none) (c : Condition) : u.detail c = none := by
  rw [ConditionUnit.detail, h]
  cases c <;> rfl

/-- A unit with no flag drives neither pin, unless the station is HALTED. -/
theorem attnLevel_of_noFlags {u : ConditionUnit} (h : u.pending = 0) (st : Station) : attnLevel st u = false := by
  unfold attnLevel
  rw [h, highest_zero, Bool.and_false]

theorem stopLevel_of_noFlags {u : ConditionUnit} (hp : u.pending = 0) (hs : u.inService = 0) {st : Station}
    (hst : st.state ≠ .halted) : stopLevel st u = false := by
  refine Bool.eq_false_iff.2 fun hstop => ?_
  obtain ⟨-, -, hhalted | ⟨c, -, hc | hc⟩⟩ := (stopLevel_iff ({ station := st, cond := u } : State)).1 hstop
  · exact hst hhalted
  · rw [show ({ station := st, cond := u } : State).cond.pending = 0 from hp, has_zero] at hc
    cases hc
  · rw [show ({ station := st, cond := u } : State).cond.inService = 0 from hs, has_zero] at hc
    cases hc

/-! ## After a rising edge -/

/-- R178: the mask after a rising edge holds the conditions of the first five ranks. -/
theorem has_defaultMask (c : Condition) : has (0x001F : CondSet) c = decide (c.rank ≤ 5) := by cases c <;> decide

theorem tally_empty_sound : Tally.sound {} := ⟨by decide, by decide, by decide⟩

theorem powerUp_sound (l : Lane) (q : BitVec 2) (o : Bool) (s : State) :
    (powerUp l q o s).pinsFollow ∧ (powerUp l q o s).cond.sound ∧ (powerUp l q o s).tally.sound ∧
      (powerUp l q o s).arrival.sound ∧ (powerUp l q o s).withinLimits ∧ (powerUp l q o s).banksWhole ∧
      (powerUp l q o s).rules.inRange ∧ (powerUp l q o s).transmitsInTurn :=
  ⟨pinsFollow_powerUp l q o s, sound_of_no_flags rfl rfl rfl rfl rfl, tally_empty_sound,
    ⟨by simp [powerUp], by simp [powerUp]⟩, (withinBounds_powerUp l q o s).1, (withinBounds_powerUp l q o s).2.1,
    (withinBounds_powerUp l q o s).2.2, transmitsInTurn_iff.2 fun _ => inTurn_of_empty rfl nofun rfl⟩

/-! ## One reference period -/

theorem tickTimers_of_transmits (h : s.station.state.transmits = true) :
    (tickTimers s).arrival.items = s.arrival.items.map (fun it => { it with settle := it.settle.map (· - 1) }) ∧
      (tickTimers s).inquiry.inquiries = s.inquiry.inquiries.map (fun q => { q with window := q.window.map (· - 1) }) ∧
      (tickTimers s).inquiry.answers = s.inquiry.answers.map (fun x => { x with holdOff := x.holdOff - 1 }) ∧
      (tickTimers s).claim = { s.claim with
        corrections := s.claim.corrections.map fun c => { c with holdOff := c.holdOff - 1 }
        greetingTimer := s.claim.greetingTimer.map (· - 1) } := by
  rw [tickTimers, if_pos h]
  exact ⟨rfl, rfl, rfl, rfl⟩

theorem tickTimers_of_still (h : s.station.state.transmits = false) : tickTimers s = s := by
  simp [tickTimers, h]

/-- The blocks that no timer runs in. -/
theorem tickTimers_kept (s : State) : (tickTimers s).station = s.station ∧ (tickTimers s).arrival.belt = s.arrival.belt ∧
    (tickTimers s).tally = s.tally ∧ (tickTimers s).rules = s.rules ∧ (tickTimers s).watch = s.watch ∧
    (tickTimers s).cond = s.cond ∧ (tickTimers s).access = s.access ∧ (tickTimers s).line = s.line ∧
    (tickTimers s).port = s.port ∧ (tickTimers s).draws = s.draws ∧ (tickTimers s).pending = s.pending ∧
    (tickTimers s).clock = s.clock := by
  unfold tickTimers
  split <;> exact ⟨rfl, rfl, rfl, rfl, rfl, rfl, rfl, rfl, rfl, rfl, rfl, rfl⟩

theorem tick_mem_tickCommands (b : Bool) : .dwellClockTick b ∈ tickCommands s ↔ s.clock.msPhase = 0 ∧ b = s.arrival.belt := by
  unfold tickCommands
  split <;> split <;> simp [*]

/-- The period brings nothing to a block that neither runs a timer nor the line nor the port. -/
theorem tick_blocks (s : State) : (tick s).station = (tickTimers s).station ∧ (tick s).arrival = (tickTimers s).arrival ∧
    (tick s).inquiry = (tickTimers s).inquiry ∧ (tick s).claim = (tickTimers s).claim ∧
    (tick s).tally = (tickTimers s).tally ∧ (tick s).rules = (tickTimers s).rules ∧
    (tick s).watch = (tickTimers s).watch ∧ (tick s).cond = (tickTimers s).cond ∧
    (tick s).access.queue = (tickTimers s).access.queue ∧ (tick s).line.discards = (tickTimers s).line.discards ∧
    (tick s).port.output = (tickTimers s).port.output ∧ (tick s).draws = (tickTimers s).draws ∧
    (tick s).clock.msPhase = ((tickTimers s).clock.msPhase + 1) % 24000 := by
  unfold tick
  generalize tickTimers s = u
  simp [tickPhases, tickPort, tickLine, Config.periodsPerMs]

/-- The commands of a period stand behind those that waited. -/
theorem tick_pending (s : State) : ∃ u : State, (tick s).pending = (tickTimers s).pending ++ tickCommands u ∧
    u.clock.msPhase = ((tickTimers s).clock.msPhase + 1) % 24000 ∧ u.arrival.belt = (tickTimers s).arrival.belt := by
  unfold tick
  generalize tickTimers s = u
  refine ⟨tickPhases (tickPort (tickLine u)), rfl, ?_, rfl⟩
  simp [tickPhases, tickPort, tickLine, Config.periodsPerMs]

/-! ## The refresh -/

/-- QUIET or DEFERRING, by whether an entry waits in a state in which attempts begin (R141). -/
theorem restUnit_eq (st : StationState) (a : LineAccess) : ∃ unit : UnitState,
    restUnit st a = { a with unit := unit } ∧
      (a.unit = .sending ∨ a.unit = .jamming → unit = a.unit) ∧
      (a.unit = .quiet ∨ a.unit = .deferring →
        (st.transmits = true ∧ (∃ e ∈ a.queue, e.inFlight = false) → unit = .deferring) ∧
        (¬ (st.transmits = true ∧ ∃ e ∈ a.queue, e.inFlight = false) → unit = .quiet)) := by
  have hwaits : (st.transmits && a.queue.any fun e => !e.inFlight) = true ↔
      st.transmits = true ∧ ∃ e ∈ a.queue, e.inFlight = false := by simp
  unfold restUnit
  cases hu : a.unit with
  | sending | jamming => exact ⟨a.unit, rfl, by simp [hu], by simp⟩
  | quiet | deferring =>
    refine ⟨_, rfl, by simp, fun _ => ⟨fun h => if_pos (hwaits.2 h), fun h => if_neg (mt hwaits.1 h)⟩⟩

/-- Without an entry waiting in a state in which attempts begin a unit that is not DEFERRING stays. -/
theorem restUnit_of_still {st : StationState} {a : LineAccess} (hst : st.transmits = false) (hu : a.unit ≠ .deferring) :
    restUnit st a = a := by
  unfold restUnit
  cases h : a.unit with
  | deferring => exact absurd h hu
  | quiet => simp [hst, ← h]
  | sending | jamming => rfl

/-! ## LANE RESET -/

theorem abort_eq (a : LineAccess) (rate : BitVec 2) :
    (a.abort rate).flight = none ∧
      (a.abort rate).unit = (if a.unit = .sending ∨ a.unit = .jamming then .jamming else .quiet) ∧
      (a.unit = .sending → (a.abort rate).wave = jammedWave rate a.wave a.txElapsed) := by
  unfold LineAccess.abort
  cases hu : a.unit <;> simp [LineAccess.jam]

theorem port_reset_output (p : LanePort) : p.reset.output = if 1040 ≤ p.outElapsed then p.output.take 1 else [] := by
  have hstarted : (decide (Config.lanePortCharBits * Config.lanePortBitPeriods ≤ p.outElapsed) = true) ↔
      1040 ≤ p.outElapsed := decide_eq_true_iff
  simp only [LanePort.reset, hstarted]

end Sys2Proof.Machine

open Sys2Proof Sys2Proof.Machine

/-- Settles O51, by what a rising edge leaves in each block. -/
theorem resetIsPowerUpAndSound : Obligations.ResetIsPowerUpAndSound := by
  unfold Obligations.ResetIsPowerUpAndSound
  have hreset : State.reset = powerUp 1 0 false State.reset := rfl
  refine ⟨rfl, fun s t l q o h => ?_⟩
  rcases h with rfl | h
  · rw [hreset]
    exact powerUp_sound 1 0 false State.reset
  · cases h
    exact powerUp_sound l q o s

/-- Settles O16, block by block. -/
theorem powerGoodRises : Obligations.PowerGoodRises := by
  unfold Obligations.PowerGoodRises
  intro s l q o
  refine ⟨powerUp l q o s, rfl, ?_, rfl, rfl, rfl, rfl, rfl, rfl, rfl, fun x hx => List.eq_of_mem_replicate hx, rfl, rfl,
    fun c hc => List.eq_of_mem_replicate hc, rfl, fun g hg => List.eq_of_mem_replicate hg, rfl, rfl, rfl, ?_, rfl, rfl, rfl,
    rfl, rfl, rfl, rfl, rfl, rfl, rfl, rfl, fun w hw => List.eq_of_mem_replicate hw, rfl, rfl, rfl, rfl,
    fun c => detail_of_empty _ rfl c, has_defaultMask, rfl, rfl, rfl, rfl, rfl, rfl, rfl, rfl, rfl⟩
  · simp [powerUp]
  · simp [powerUp]

/-- Settles O18, block by block. -/
theorem laneResetClears : Obligations.LaneResetClears := by
  unfold Obligations.LaneResetClears
  intro s hon
  have hexec : exec .laneReset s = .next (laneReset s) := congrArg _ (powered_on hon)
  refine ⟨fun hs => ?_, fun hs => ⟨laneReset s, hexec, ?_⟩⟩
  · rw [hexec, laneReset, if_pos (by simp [hs])]
  · rw [laneReset_of_live hs]
    obtain ⟨hqueue, -⟩ := abort_queue s.access s.station.rate
    obtain ⟨hflight, hunit, hwave⟩ := abort_eq s.access s.station.rate
    have hstays : restUnit .configuring { s.access.abort s.station.rate with yield := false, placements := 0 } =
        { s.access.abort s.station.rate with yield := false, placements := 0 } := by
      refine restUnit_of_still rfl ?_
      dsimp only
      rw [hunit]
      split <;> simp
    simp only [refresh, hstays]
    refine ⟨rfl, rfl, rfl, rfl, rfl, rfl, rfl, rfl, rfl, fun x hx => List.eq_of_mem_replicate hx, rfl, rfl, rfl, rfl, rfl,
      rfl, rfl, rfl, hqueue, rfl, hflight, hunit, hwave, rfl, fun w hw => List.eq_of_mem_replicate hw, rfl, rfl, rfl, rfl,
      fun c => detail_of_empty _ rfl c, rfl, rfl, rfl, attnLevel_of_noFlags rfl _, stopLevel_of_noFlags rfl rfl nofun, rfl, rfl, rfl, rfl,
      port_reset_output s.port, rfl, rfl⟩

/-- Settles O14. -/
theorem stepRunsFrontCommand : Obligations.StepRunsFrontCommand := by
  unfold Obligations.StepRunsFrontCommand
  refine ⟨fun _ _ _ => rfl, fun s hnil hoff => ?_⟩
  unfold step idleStep
  rw [hnil]
  simp [hoff]

/-- Settles O15, by what the timers, the line, the port and the phases do in one period. -/
theorem referencePeriodPasses : Obligations.ReferencePeriodPasses := by
  unfold Obligations.ReferencePeriodPasses
  intro s hnil hon hdue
  have hstep : step s = .next (tick s) := by
    unfold step idleStep
    rw [hnil]
    simp [hon, hdue]
  obtain ⟨hstation, hbelt, htally, hrules, hwatch, hcond, haccess, hline, hport, hdraws, hpending, hclock⟩ :=
    tickTimers_kept s
  obtain ⟨tstation, tarrival, tinquiry, tclaim, ttally, trules, twatch, tcond, tqueue, tdiscards, toutput, tdraws, tphase⟩ :=
    tick_blocks s
  refine ⟨tick s, hstep, fun htx => ?_, fun hno => ?_, fun b => ?_, ?_, tstation.trans hstation, ttally.trans htally,
    trules.trans hrules, twatch.trans hwatch, tcond.trans hcond, ?_, ?_, ?_, tdraws.trans hdraws⟩
  · rw [tarrival, tinquiry, tclaim]
    exact tickTimers_of_transmits htx
  · rw [tarrival, tinquiry, tclaim, tickTimers_of_still hno]
    exact ⟨rfl, rfl, rfl⟩
  · obtain ⟨u, hu, hphase, hub⟩ := tick_pending s
    rw [hu, hpending, hnil, List.nil_append, tick_mem_tickCommands, hphase, hub, hclock, hbelt]
  · rw [tphase, hclock]
  · rw [tqueue, haccess]
  · rw [tdiscards, hline]
  · rw [toutput, hport]

/-- Settles O19, by the levels of the two pins and the rest of the line access unit. -/
theorem refreshFollows : Obligations.RefreshFollows := by
  unfold Obligations.RefreshFollows
  intro s
  obtain ⟨unit, hrest, hgoes, hrests⟩ := restUnit_eq s.station.state s.access
  refine ⟨attnLevel s.station s.cond, stopLevel s.station s.cond, unit, ?_, attnLevel_iff s, stopLevel_iff s, hgoes, hrests⟩
  unfold refresh
  rw [hrest]
  rfl
end

section
/-! Proofs about the CONFIGURE selectors of the condition unit, the station's three requests, LOAD WATCH ENTRY and READ
ENTRY. -/

namespace Sys2Proof.Machine

variable {s : State} {rest : List Request}

/-! ## Bytes and digits (R196) -/

theorem wordBytes_append (a b : Byte) : wordBytes (b ++ a).toNat = [a, b] := by
  have hsum : (b ++ a).toNat = b.toNat * 256 + a.toNat := by
    rw [BitVec.toNat_append, Nat.shiftLeft_eq, Nat.mul_comm, ← Nat.two_pow_add_eq_or_of_lt a.isLt]
  have hlow : byteOf (b ++ a).toNat = a := BitVec.eq_of_toNat_eq (by simp [byteOf, hsum]; omega)
  have hhigh : byteOf ((b ++ a).toNat / 256) = b := BitVec.eq_of_toNat_eq (by simp [byteOf, hsum]; omega)
  rw [wordBytes, hlow, hhigh]

/-- The low four bits of a decimal digit's character are the digit. -/
theorem digitOfChar_eq {c : Byte} (h : 48 ≤ c.toNat ∧ c.toNat ≤ 57) : digitOfChar c = BitVec.ofNat 4 (c.toNat - 48) := by
  refine BitVec.eq_of_toNat_eq ?_
  simp only [digitOfChar, BitVec.extractLsb'_toNat, Nat.shiftRight_zero, BitVec.toNat_ofNat]
  omega

theorem map_digitOfChar {chars : List Byte} (h : ∀ c ∈ chars, 48 ≤ c.toNat ∧ c.toNat ≤ 57) :
    chars.map digitOfChar = chars.map fun c => BitVec.ofNat 4 (c.toNat - 48) :=
  List.map_congr_left fun c hc => digitOfChar_eq (h c hc)

theorem all_digits_iff {chars : List Byte} :
    chars.all isDigitChar = true ↔ ∀ c ∈ chars, 48 ≤ c.toNat ∧ c.toNat ≤ 57 := by
  simp [List.all_eq_true, isDigitChar_iff]

/-! ## The condition unit's settings (R178) -/

section
variable {r : Request} (h : Serving s r rest)
include h

theorem buffer_setCond_of_serving (u : ConditionUnit) : (s.setCond u).port.buffer = r :: rest := buffer_of_serving h

end

theorem configureReply_unclamped {r : Request} (hbuffer : s.port.buffer = r :: rest) (stored : List Byte) :
    configureReply r false stored s = s.replied rest ([r.kind, 0, byteAt r.payload 0, byteAt r.payload 1] ++ stored) :=
  answerRequest_eq hbuffer

theorem configureMask_configuring {a b : Byte}
    (h : Serving s { kind := 2, length := 4, payload := [4, 0, a, b] } rest) (hs : s.station.state = .configuring) :
    configureMask s = (s.setCond { s.cond with mask := b ++ a }).replied rest [2, 0, 4, 0, a, b] := by
  rw [configureMask, serve_taken (row := .configureMask) h rfl rfl (configureState_iff.2 hs)]
  dsimp only
  rw [configureReply_unclamped (buffer_setCond_of_serving h _), show wordAt [4, 0, a, b] 2 = b ++ a from rfl, wordBytes_append]
  rfl

theorem configureStopRouting_configuring {a b : Byte}
    (h : Serving s { kind := 2, length := 4, payload := [5, 0, a, b] } rest) (hs : s.station.state = .configuring) :
    configureStopRouting s =
      refresh ((s.setCond { s.cond with routing := b ++ a }).replied rest [2, 0, 5, 0, a, b]) := by
  rw [configureStopRouting, serve_taken (row := .configureStopRouting) h rfl rfl (configureState_iff.2 hs)]
  dsimp only
  rw [configureReply_unclamped (buffer_setCond_of_serving h _), show wordAt [5, 0, a, b] 2 = b ++ a from rfl, wordBytes_append]
  rfl

theorem configureAutomaticEnd_configuring {f : Byte}
    (h : Serving s { kind := 2, length := 3, payload := [6, 0, f] } rest) (hs : s.station.state = .configuring) :
    configureAutomaticEnd s =
      (s.setCond { s.cond with autoEnd := f != 0 }).replied rest [2, 0, 6, 0, if f = 0 then 0 else 1] := by
  rw [configureAutomaticEnd, serve_taken (row := .configureAutomaticEnd) h rfl rfl (configureState_iff.2 hs)]
  dsimp only
  rw [configureReply_unclamped (buffer_setCond_of_serving h _), show byteAt [6, 0, f] 2 = f from rfl, flagByte_readFlag]
  rfl

theorem exec_condition_refusedState {r : Request} (h : Serving s r rest) (hform : r.formOk = true)
    (hs : s.station.state ≠ .configuring)
    (hrow : r.row = .configureMask ∨ r.row = .configureStopRouting ∨ r.row = .configureAutomaticEnd) :
    exec r.row.command s = .next (s.replied rest [r.kind, 3]) := by
  rcases hrow with hrow | hrow | hrow <;> rw [hrow] <;>
    exact congrArg Host.Outcome.next (serve_configure_refusedState h hrow hform hs)

end Sys2Proof.Machine

open Sys2Proof Sys2Proof.Machine

/-- Settles O3: the three selectors one by one, the defaults, and what LANE RESET and CLEAR WORK leave (by O58's
induction). -/
theorem configureConditionUnit : Obligations.ConfigureConditionUnit := by
  unfold Obligations.ConfigureConditionUnit
  intro s rest
  refine ⟨fun a b h hs => ?_, fun a b h hs => ?_, fun f h hs => ?_, fun r h hform hs hrow => ?_, fun l q o t h => ?_,
    fun c t hc h => ?_⟩
  · exact congrArg Host.Outcome.next (configureMask_configuring h hs)
  · exact ⟨_, congrArg Host.Outcome.next (configureStopRouting_configuring h hs), rfl, refresh_stop _⟩
  · exact congrArg Host.Outcome.next (configureAutomaticEnd_configuring h hs)
  · exact exec_condition_refusedState h hform hs hrow
  · cases h
    exact ⟨has_defaultMask, rfl, rfl⟩
  · have hrise : ∀ l q o, c ≠ .powerGoodRise l q o := by rcases hc with rfl | rfl <;> exact fun _ _ _ => nofun
    obtain ⟨-, hm, hr, ha, -⟩ := configurationFixed c s t h hrise
    rcases hc with rfl | rfl <;> simp only [reduceCtorEq, and_false, or_false] at hm hr ha <;> exact ⟨hm, hr, ha⟩

section
namespace Sys2Proof.Machine

variable {s : State} {rest : List Request}

/-! ## COMMENCE, PAUSE and RESUME (R183, R184) -/

theorem pauseStates_iff {st : StationState} : pauseStates st = true ↔ st = .run ∨ st = .paused := by
  simp [pauseStates]

theorem serve_refusedState_replied {row : RequestRow} {taken : StationState → Bool} {take : Request → State → State}
    {r : Request} (h : Serving s r rest) (hrow : r.row = row) (hform : r.formOk = true)
    (hstate : taken s.station.state = false) : serve row taken take s = s.replied rest [r.kind, 3] :=
  (serve_refusedState h hrow hform hstate).trans (answerRequest_eq (buffer_of_serving h))

theorem pauseStates_eq_false {st : StationState} (hrun : st ≠ .run) (hpaused : st ≠ .paused) : pauseStates st = false :=
  Bool.eq_false_iff.2 fun h => (pauseStates_iff.1 h).elim hrun hpaused

end Sys2Proof.Machine
end

/-- Settles O4: each request by the station state it finds. -/
theorem stationRequests : Obligations.StationRequests := by
  unfold Obligations.StationRequests
  refine fun s rest => ⟨fun h => ⟨fun hs => ?_, fun hs => ?_⟩, fun h => ⟨fun hs => ?_, fun hs => ?_, fun hrun hpaused => ?_⟩,
    fun h => ⟨fun hs => ?_, fun hrun hpaused => ?_⟩⟩
  · refine congrArg Host.Outcome.next ((serve_taken h rfl rfl (by simp [hs])).trans (congrArg refresh ?_))
    exact answerRequest_eq (s := placeGreeting (enterState .joining s)) (buffer_of_serving h)
  · exact congrArg Host.Outcome.next (serve_refusedState_replied h rfl rfl (by simp [hs]))
  · refine congrArg Host.Outcome.next ((serve_taken h rfl rfl (pauseStates_iff.2 (.inl hs))).trans (congrArg refresh ?_))
    rw [if_pos (by simp [hs])]
    exact answerRequest_eq (s := (enterState .paused s).setCond s.cond.releaseDeferred) (buffer_of_serving h)
  · refine congrArg Host.Outcome.next ((serve_taken h rfl rfl (pauseStates_iff.2 (.inr hs))).trans (congrArg refresh ?_))
    rw [if_neg (by simp [hs])]
    exact answerRequest_eq (buffer_of_serving h)
  · exact congrArg Host.Outcome.next (serve_refusedState_replied h rfl rfl (pauseStates_eq_false hrun hpaused))
  · refine congrArg Host.Outcome.next ((serve_taken h rfl rfl (pauseStates_iff.2 hs)).trans (congrArg refresh ?_))
    exact answerRequest_eq (s := enterState .run s) (buffer_of_serving h)
  · exact congrArg Host.Outcome.next (serve_refusedState_replied h rfl rfl (pauseStates_eq_false hrun hpaused))

section
namespace Sys2Proof.Machine

variable {s : State} {rest : List Request}

/-! ## LOAD WATCH ENTRY (R160) -/

/-- A LOAD WATCH ENTRY (11.5.2). -/
def loadRequest (i v : Byte) (chars : List Byte) (p0 p1 ev dv en : Byte) : Request :=
  { kind := 7, length := 20, payload := [i, v] ++ chars ++ [p0, p1, ev, dv, en] }

/-- What the fields behind a load's identifier read. -/
theorem loadRequest_fields {chars : List Byte} (hlen : chars.length = 13) (i v p0 p1 ev dv en : Byte) :
    let p := (loadRequest i v chars p0 p1 ev dv en).payload
    (p.drop 2).take 13 = chars ∧ wordAt p 15 = p1 ++ p0 ∧ byteAt p 17 = ev ∧ byteAt p 18 = dv ∧ byteAt p 19 = en := by
  obtain ⟨c0, c1, c2, c3, c4, c5, c6, c7, c8, c9, c10, c11, c12, rfl⟩ := exists_of_length_thirteen hlen
  exact ⟨rfl, rfl, rfl, rfl, rfl⟩

theorem loadedEntry_loadRequest {chars : List Byte} (hlen : chars.length = 13) (i v p0 p1 ev dv en : Byte)
    (hdec : ∀ c ∈ chars, 48 ≤ c.toNat ∧ c.toNat ≤ 57) :
    loadedEntry (loadRequest i v chars p0 p1 ev dv en).payload =
      { valid := v != 0, digits := chars.map fun c => BitVec.ofNat 4 (c.toNat - 48)
        part := if (p1 ++ p0).toNat = 65535 then none else some (p1 ++ p0), events := BitVec.ofNat 4 ev.toNat
        divert := dv != 0, endOfList := en != 0, hits := 0 } := by
  obtain ⟨hchars, hpart, hev, hdv, hen⟩ := loadRequest_fields hlen i v p0 p1 ev dv en
  have hany : ((p1 ++ p0 : BitVec 16) == 65535) = decide ((p1 ++ p0).toNat = 65535) := by
    rw [beq_eq_decide]
    exact decide_eq_decide.2 BitVec.toNat_inj.symm
  have hmask : ev.extractLsb' 0 4 = BitVec.ofNat 4 ev.toNat := BitVec.eq_of_toNat_eq (by simp)
  simp only [loadedEntry, hchars, hpart, hev, hdv, hen, hany, decide_eq_true_eq, hmask, map_digitOfChar hdec]
  rfl

theorem loadRequest_formOk_iff {chars : List Byte} (hlen : chars.length = 13) (i v p0 p1 ev dv en : Byte) :
    (loadRequest i v chars p0 p1 ev dv en).formOk = true ↔ i.toNat ≤ 15 ∧
      (∀ c ∈ chars, 48 ≤ c.toNat ∧ c.toNat ≤ 57) ∧ ((p1 ++ p0).toNat ≤ 9999 ∨ (p1 ++ p0).toNat = 65535) := by
  obtain ⟨hchars, hpart, -⟩ := loadRequest_fields hlen i v p0 p1 ev dv en
  have hdigits : ¬ (∃ c ∈ chars, c.toNat < 48 ∨ 57 < c.toNat) ↔ ∀ c ∈ chars, 48 ≤ c.toNat ∧ c.toNat ≤ 57 := by
    rw [← all_isDigitChar_iff, all_digits_iff]
  rw [formOk_iff_of_fields (row := .loadWatchEntry) (n := 20) rfl rfl (fieldsOk_iff_of_loadWatchEntry rfl), hchars, hpart]
  have hindex : natAt (loadRequest i v chars p0 p1 ev dv en).payload 0 = i.toNat := rfl
  have hlength : (loadRequest i v chars p0 p1 ev dv en).length.toNat = 20 := rfl
  rw [hindex, hlength, ← hdigits]
  simp only [ne_eq, not_true_eq_false, false_or, not_or, not_and_or, not_lt, not_not]

theorem loadWatchEntry_served {chars : List Byte} {i v p0 p1 ev dv en : Byte}
    (h : Serving s (loadRequest i v chars p0 p1 ev dv en) rest)
    (hform : (loadRequest i v chars p0 p1 ev dv en).formOk = true) (hs : s.station.state.receives = true) :
    loadWatchEntry s =
      (s.setWatch (s.watch.set i.toNat (loadedEntry (loadRequest i v chars p0 p1 ev dv en).payload))).replied rest
        ([7, 0] ++ watchContent i (s.watch.getD i.toNat {})) := by
  rw [loadWatchEntry, serve_taken (row := .loadWatchEntry) (taken := loadStates) h rfl hform hs]
  exact answerRequest_eq (s := s.setWatch _) (buffer_of_serving h)

end Sys2Proof.Machine
end

/-- Settles O6: the form, the state, and the entry replaced. -/
theorem loadWatchEntryReplaces : Obligations.LoadWatchEntryReplaces := by
  unfold Obligations.LoadWatchEntryReplaces
  intro s rest i v p0 p1 ev dv en chars hlen h part old new correct
  have hserving : Serving s (loadRequest i v chars p0 p1 ev dv en) rest := h
  have hform : (loadRequest i v chars p0 p1 ev dv en).formOk = true ↔ correct :=
    loadRequest_formOk_iff hlen i v p0 p1 ev dv en
  refine ⟨fun hwrong => ?_, fun hok hs => ?_, fun hok hs => ?_⟩
  · exact congrArg Host.Outcome.next (serve_refusedForm_replied hserving rfl (Bool.eq_false_iff.2 (mt hform.1 hwrong)))
  · exact congrArg Host.Outcome.next (serve_refusedState_replied hserving rfl (hform.2 hok) hs)
  · have hentry : loadedEntry (loadRequest i v chars p0 p1 ev dv en).payload = new :=
      loadedEntry_loadRequest hlen i v p0 p1 ev dv en hok.2.1
    refine congrArg Host.Outcome.next ((loadWatchEntry_served hserving (hform.2 hok) hs).trans ?_)
    rw [hentry]
    rfl
end

section
/-! Proofs about the release of decided records, the decision of an item, the entry to HALTED and CLEAR WORK. -/

namespace Sys2Proof.Machine

variable {s : State}

/-! ## Release (R49, R167) -/

/-- What a release that takes `gone` from the head and leaves `stay` makes of the state. -/
def State.released (s : State) (gone stay : List Item) : State :=
  { s with
    arrival := { s.arrival with items := stay }
    port := { s.port with output := s.port.output ++ gone.map dispositionRecord }
    cond := { s.cond with
      pending := if gone ≠ [] ∧ stay = [] then s.cond.pending ||| s.cond.deferred else s.cond.pending
      deferred := if gone ≠ [] ∧ stay = [] then 0 else s.cond.deferred } }

/-- Which records a release takes: decided ones from the head, up to the first that is undecided or the eighth unsent
DISPOSITION record. -/
structure Releases (s : State) (gone stay : List Item) : Prop where
  items : s.arrival.items = gone ++ stay
  decided : ∀ it ∈ gone, it.stage = .decided
  stops : ∀ it ∈ stay.head?, it.stage ≠ .decided ∨ 8 ≤ dispositionCount s.port.output + gone.length
  room : gone ≠ [] → dispositionCount s.port.output + gone.length ≤ 8

theorem releaseItems_eq (s : State) : ∃ gone stay, Releases s gone stay ∧
    releaseItems s = finishClearWork (s.released gone stay) := by
  obtain ⟨gone, hitems, hout, hdecided, hroom, hstops⟩ := releaseHead_spec s.arrival.items s.port.output
  refine ⟨gone, (releaseHead s.arrival.items s.port.output).1, ⟨hitems, hdecided, hstops, hroom⟩, ?_⟩
  have hemptied : ((releaseHead s.arrival.items s.port.output).1.isEmpty && !s.arrival.items.isEmpty) = true ↔
      gone ≠ [] ∧ (releaseHead s.arrival.items s.port.output).1 = [] := by
    generalize (releaseHead s.arrival.items s.port.output).1 = stay at hitems
    rw [hitems]
    cases stay <;> cases gone <;> simp
  unfold releaseItems
  dsimp only [State.released]
  simp only [← hemptied, hout]
  split <;> rfl

/-! ## The end of a CLEAR WORK in handling (R52, R188) -/

theorem finishClearWork_of_not_clearing (h : s.port.clearing = false ∨ s.arrival.items ≠ []) : finishClearWork s = s := by
  refine if_neg fun hb => ?_
  simp only [Bool.and_eq_true, List.isEmpty_iff] at hb
  rcases h with h | h
  · simp [h] at hb
  · exact h hb.2

/-- The reply DONE that ends a CLEAR WORK. -/
def State.clearReplied (s : State) (r : Request) (rest : List Request) : State :=
  { s with port := { s.port with
      clearing := false, buffer := rest, output := s.port.output ++ [{ kind := 240, payload := [r.kind, 0] }] } }

section
variable {r : Request} {rest : List Request} (hc : s.port.clearing = true) (hi : s.arrival.items = [])
include hc hi

theorem finishClearWork_halted (hs : s.station.state = .halted) (hb : s.port.buffer = r :: rest) :
    finishClearWork s = s.clearReplied r rest := by
  unfold finishClearWork
  rw [if_pos (by simp [hc, hi])]
  simp only [hs, beq_self_eq_true, if_true, hb]
  simp [State.clearReplied, answerRequest, State.setPort, LanePort.produce, replyRecord, hb, ResultCode.code]

theorem finishClearWork_live (hs : s.station.state ≠ .halted) (hb : s.port.buffer = r :: rest) :
    finishClearWork s = (s.setCond s.cond.clearSets).clearReplied r rest := by
  unfold finishClearWork
  rw [if_pos (by simp [hc, hi])]
  simp only [beq_eq_false_iff_ne.2 hs, Bool.false_eq_true, if_false, State.setCond_port, hb]
  simp [State.clearReplied, answerRequest, State.setPort, LanePort.produce, replyRecord, hb, ResultCode.code]

end

/-- What the end of a CLEAR WORK leaves in HALTED of the condition unit and the queue. -/
theorem finishClearWork_halted_cond (hs : s.station.state = .halted) : (finishClearWork s).cond = s.cond := by
  unfold finishClearWork
  simp only [hs, beq_self_eq_true, if_true]
  split
  · split <;> rfl
  · rfl

/-- The output stream only grows. -/
theorem finishClearWork_output (s : State) : ∃ more, (finishClearWork s).port.output = s.port.output ++ more := by
  unfold finishClearWork
  dsimp only
  split
  · have hport : (if (s.station.state == .halted) = true then s else s.setCond s.cond.clearSets).port = s.port := by
      split <;> rfl
    split
    · exact ⟨[_], congrArg (fun p : LanePort => p.output ++ _) hport⟩
    · exact ⟨[], (congrArg LanePort.output hport).trans (List.append_nil _).symm⟩
  · exact ⟨[], (List.append_nil _).symm⟩

theorem releaseItems_output (s : State) : ∃ more, (releaseItems s).port.output = s.port.output ++ more := by
  obtain ⟨gone, stay, -, heq⟩ := releaseItems_eq s
  obtain ⟨more, hmore⟩ := finishClearWork_output (s.released gone stay)
  exact ⟨gone.map dispositionRecord ++ more, by rw [heq, hmore, ← List.append_assoc]; rfl⟩

/-! ## DISPOSITION RELEASE -/

theorem dispositionCode_eq (d : Option Disposition) : dispositionCode d = (d.map Disposition.code).getD 0 := by
  cases d <;> rfl

theorem flagByte_isClamped (m : Mass) : flagByte m.isClamped = if m = .clamped then 1 else 0 := by
  cases m <;> rfl

theorem reportBytes_eq (m : Mass) :
    m.reportBytes = wordBytes (match m with | .usable g => g | .clamped => 60000 | .absent => 65535) := by
  cases m <;> rfl

theorem exec_dispositionRelease (hon : s.station.powerGood = true) :
    exec .dispositionRelease s = .next (refresh (releaseItems s)) := congrArg Host.Outcome.next (powered_on hon)

/-- With room for every record all of a decided queue goes. -/
theorem Releases.all {gone stay : List Item} (h : Releases s gone stay) (hdecided : ∀ it ∈ s.arrival.items, it.stage = .decided)
    (hroom : dispositionCount s.port.output + s.arrival.items.length ≤ 8) : gone = s.arrival.items ∧ stay = [] := by
  obtain ⟨hitems, -, hstops, -⟩ := h
  cases stay with
  | nil => exact ⟨by simp [hitems], rfl⟩
  | cons it stay =>
    have hmem : it ∈ s.arrival.items := by simp [hitems]
    have hlen : s.arrival.items.length = gone.length + (stay.length + 1) := by simp [hitems]
    rcases hstops it rfl with hno | hfull
    · exact absurd (hdecided it hmem) hno
    · omega

end Sys2Proof.Machine

open Sys2Proof Sys2Proof.Machine

/-- Settles O27, by what a release takes from the head and how a CLEAR WORK in handling ends. -/
theorem dispositionRelease : Obligations.DispositionRelease := by
  unfold Obligations.DispositionRelease
  intro s hon record
  have hrecord : record = dispositionRecord := by
    funext it
    simp only [record, dispositionRecord, dispositionCode_eq, flagByte_isClamped, reportBytes_eq]
    rfl
  rw [exec_dispositionRelease hon]
  refine ⟨?_, fun r rest hc hs hb hdecided hroom => ?_⟩
  · obtain ⟨gone, stay, hrel, heq⟩ := releaseItems_eq s
    refine ⟨gone, stay, hrel.items, hrel.decided, hrel.stops, hrel.room, fun hwait => ?_, fun r rest hc hs hstay hb => ?_⟩
    · rw [heq, finishClearWork_of_not_clearing (s := s.released gone stay) hwait, hrecord]
      rfl
    · rw [heq, finishClearWork_halted (s := s.released gone stay) hc hstay hs hb, hrecord]
      rfl
  · obtain ⟨gone, stay, hrel, heq⟩ := releaseItems_eq s
    obtain ⟨rfl, rfl⟩ := hrel.all hdecided hroom
    rw [heq, finishClearWork_live (s := s.released _ []) hc rfl hs hb, hrecord]
    rfl
end

section
/-! Proofs about the decision of an item, the entry to HALTED, CLEAR WORK and READ ENTRY. -/

namespace Sys2Proof.Machine

variable {s : State}

/-! ## A record by its tag (R27) -/

theorem find_of_append {a : Arrival} {before behind : List Item} {it : Item} (hitems : a.items = before ++ it :: behind)
    (hnodup : (a.items.map Item.tag).Nodup) : a.find it.tag = some it := by
  refine List.find?_eq_some_iff_append.2 ⟨beq_self_eq_true _, before, behind, hitems, fun x hx => ?_⟩
  rw [hitems, List.map_append, List.map_cons, List.nodup_middle, List.nodup_cons] at hnodup
  have hne : x.tag ≠ it.tag := fun h => hnodup.1 (List.mem_append.2 (.inl (h ▸ List.mem_map_of_mem hx)))
  simpa using hne

theorem change_of_append {before behind : List Item} {it : Item} (f : Item → Item)
    (hnodup : ((before ++ it :: behind).map Item.tag).Nodup) :
    ((before ++ it :: behind).map fun x => if x.tag == it.tag then f x else x) = before ++ f it :: behind := by
  rw [List.map_append, List.map_cons, List.nodup_middle, List.nodup_cons, List.mem_append, not_or] at hnodup
  obtain ⟨⟨hbefore, hbehind⟩, -⟩ := hnodup
  have keep (l : List Item) (hl : it.tag ∉ l.map Item.tag) : (l.map fun x => if x.tag == it.tag then f x else x) = l := by
    refine (List.map_congr_left fun x hx => ?_).trans (List.map_id l)
    have hne : x.tag ≠ it.tag := fun h => hl (h ▸ List.mem_map_of_mem hx)
    simp [hne]
  rw [List.map_append, List.map_cons, keep before hbefore, keep behind hbehind, if_pos (beq_self_eq_true _)]

/-! ## The decision of an item (R43) -/

/-- An undecided item's record decided, its pin given up; nothing reported yet. -/
def State.decidedRecord (s : State) (it : Item) (d : Disposition) (reason : HoldReason) : State :=
  { s with
    arrival := { s.arrival with items := s.arrival.items.map fun x =>
      if x.tag == it.tag then x.decidedAs d reason else x }
    tally := { s.tally with table := if it.pinned then unpin s.tally.table it.key else s.tally.table } }

/-- A pin given up, in the words of R21. -/
theorem unpin_eq (table : List Entry) (k : TitleKey) : unpin table k =
    (table.map fun e => if e.key = k then { e with pins := e.pins - 1 } else e).filter
      fun e => ¬ (e.key = k ∧ e.count = 0 ∧ e.pins = 0) := by
  simp only [unpin, changeEntry, beq_iff_eq]
  refine List.filter_congr fun e _ => ?_
  simp [Bool.and_assoc, beq_eq_decide]

theorem decideItem_undecided {it : Item} (hf : s.arrival.find it.tag = some it) (hu : it.stage ≠ .decided)
    (d : Disposition) (reason : HoldReason) :
    decideItem it.tag d reason s = occurAll (itemConditions (it.decidedAs d reason)) (s.decidedRecord it d reason) := by
  unfold decideItem
  rw [hf]
  simp only [show it.undecided = true from bne_iff_ne.2 hu, if_true]
  congr 1
  unfold State.decidedRecord
  cases it.pinned <;> rfl

theorem decideItem_decided {it : Item} {tag : Byte} (hf : s.arrival.find tag = some it) (hd : it.stage = .decided)
    (d : Disposition) (reason : HoldReason) : decideItem tag d reason s = s := by
  unfold decideItem
  rw [hf]
  simp only [show it.undecided = false by simp [Item.undecided, hd], Bool.false_eq_true, if_false]

/-! ### The conditions an item reports -/

theorem itemConditions_of_cut {it : Item} (h : it.reason = .halted ∨ it.reason = .cleared) : itemConditions it = [] := by
  unfold itemConditions
  exact if_pos (by simpa using h)

/-- An item's report of a condition, without its value and event. -/
def Item.report (it : Item) (c : Condition) : Detail :=
  { condition := c, source := .ownItem it.tag, title := some { chars := it.chars, part := it.part } }

/-- The presented watch match an item reports. -/
def Item.watchReport (it : Item) (i : Nat) : Detail :=
  { it.report .watchMatch with value := some i, event := some .presented }

theorem itemConditions_of_not_cut {it : Item} (h : ¬ (it.reason = .halted ∨ it.reason = .cleared)) :
    itemConditions it =
      (if it.reason = .contention then [{ it.report .lineContention with value := some 2 }] else []) ++
      (if it.reason = .deadline then [{ it.report .deadline with value := some (it.ordinal.getD 0) }] else []) ++
      (if it.reason = .mass then [it.report .massMismatch] else []) ++
      it.watchMatch.toList.map it.watchReport ++
      (if it.corrected = true then [{ it.report .correctedOrdinal with value := some (it.ordinal.getD 0) }] else []) ++
      (if it.disposition = some .reject then [it.report .identifierFault] else []) := by
  have hgoes : ¬ ((it.reason == .halted || it.reason == .cleared) = true) := by simpa using h
  unfold itemConditions
  rw [if_neg hgoes]
  simp only [beq_iff_eq]
  cases it.watchMatch <;> rfl

theorem map_if_sublist {α β : Type} {p : Prop} [Decidable p] (f : α → β) (x : α) :
    ((if p then [x] else []).map f).Sublist [f x] := by
  split
  · exact .refl _
  · exact List.nil_sublist _

/-- The reports are in rank order. -/
theorem itemConditions_ranks (it : Item) :
    ((itemConditions it).map fun x => x.condition.rank).Pairwise (· < ·) := by
  by_cases h : it.reason = .halted ∨ it.reason = .cleared
  · rw [itemConditions_of_cut h]
    exact List.Pairwise.nil
  · have hwatch : ((it.watchMatch.toList.map it.watchReport).map fun x => x.condition.rank).Sublist [7] := by
      cases it.watchMatch with
      | none => exact List.nil_sublist _
      | some i => exact .refl _
    have hsub : ((itemConditions it).map fun x => x.condition.rank).Sublist [3, 4, 6, 7, 14, 15] := by
      rw [itemConditions_of_not_cut h]
      simp only [List.map_append]
      exact (((((map_if_sublist _ _).append (map_if_sublist _ _)).append (map_if_sublist _ _)).append hwatch).append
        (map_if_sublist _ _)).append (map_if_sublist _ _)
    exact List.Pairwise.sublist hsub (by decide)

/-- The rule's table (R43). -/
theorem mem_itemConditions {it : Item} (h : ¬ (it.reason = .halted ∨ it.reason = .cleared)) (x : Detail) :
    x ∈ itemConditions it ↔
      (it.reason = .contention ∧ x = { it.report .lineContention with value := some 2 }) ∨
      (it.reason = .deadline ∧ x = { it.report .deadline with value := some (it.ordinal.getD 0) }) ∨
      (it.reason = .mass ∧ x = it.report .massMismatch) ∨
      (∃ i, it.watchMatch = some i ∧ it.watchReport i = x) ∨
      (it.corrected = true ∧ x = { it.report .correctedOrdinal with value := some (it.ordinal.getD 0) }) ∨
      (it.disposition = some .reject ∧ x = it.report .identifierFault) := by
  rw [itemConditions_of_not_cut h]
  simp only [List.mem_append, List.mem_ite_nil_right, List.mem_singleton, List.mem_map, Option.mem_toList,
    or_assoc]

/-- Each report names the item as its source, with its title. -/
theorem itemConditions_source (it : Item) : ∀ x ∈ itemConditions it, x.source = .ownItem it.tag ∧
    x.title = some { chars := it.chars, part := it.part } ∧ x.again = false := by
  intro x hx
  by_cases h : it.reason = .halted ∨ it.reason = .cleared
  · rw [itemConditions_of_cut h] at hx
    cases hx
  · rcases (mem_itemConditions h x).1 hx with ⟨-, rfl⟩ | ⟨-, rfl⟩ | ⟨-, rfl⟩ | ⟨i, -, rfl⟩ | ⟨-, rfl⟩ | ⟨-, rfl⟩ <;>
      exact ⟨rfl, rfl, rfl⟩

/-- The condition, value and event of each report, where no halt or CLEAR WORK has decided the item. -/
theorem exists_itemConditions_iff {it : Item} (h : ¬ (it.reason = .halted ∨ it.reason = .cleared)) (c : Condition)
    (v : Option Nat) (e : Option WatchEvent) : (∃ x ∈ itemConditions it, x.condition = c ∧ x.value = v ∧ x.event = e) ↔
      (c = .lineContention ∧ it.reason = .contention ∧ v = some 2 ∧ e = none) ∨
      (c = .deadline ∧ it.reason = .deadline ∧ v = some (it.ordinal.getD 0) ∧ e = none) ∨
      (c = .massMismatch ∧ it.reason = .mass ∧ v = none ∧ e = none) ∨
      (c = .watchMatch ∧ it.watchMatch ≠ none ∧ v = it.watchMatch ∧ e = some .presented) ∨
      (c = .correctedOrdinal ∧ it.corrected = true ∧ v = some (it.ordinal.getD 0) ∧ e = none) ∨
      (c = .identifierFault ∧ it.disposition = some .reject ∧ v = none ∧ e = none) := by
  constructor
  · rintro ⟨x, hx, rfl, rfl, rfl⟩
    rcases (mem_itemConditions h x).1 hx with ⟨hp, rfl⟩ | ⟨hp, rfl⟩ | ⟨hp, rfl⟩ | ⟨i, hp, rfl⟩ | ⟨hp, rfl⟩ | ⟨hp, rfl⟩
    · exact .inl ⟨rfl, hp, rfl, rfl⟩
    · exact .inr (.inl ⟨rfl, hp, rfl, rfl⟩)
    · exact .inr (.inr (.inl ⟨rfl, hp, rfl, rfl⟩))
    · exact .inr (.inr (.inr (.inl ⟨rfl, hp ▸ Option.some_ne_none i, hp.symm, rfl⟩)))
    · exact .inr (.inr (.inr (.inr (.inl ⟨rfl, hp, rfl, rfl⟩))))
    · exact .inr (.inr (.inr (.inr (.inr ⟨rfl, hp, rfl, rfl⟩))))
  · have mem := fun x => (mem_itemConditions h x).2
    rintro (⟨rfl, hp, rfl, rfl⟩ | ⟨rfl, hp, rfl, rfl⟩ | ⟨rfl, hp, rfl, rfl⟩ | ⟨rfl, hp, rfl, rfl⟩ | ⟨rfl, hp, rfl, rfl⟩ |
      ⟨rfl, hp, rfl, rfl⟩)
    · exact ⟨_, mem _ (.inl ⟨hp, rfl⟩), rfl, rfl, rfl⟩
    · exact ⟨_, mem _ (.inr (.inl ⟨hp, rfl⟩)), rfl, rfl, rfl⟩
    · exact ⟨_, mem _ (.inr (.inr (.inl ⟨hp, rfl⟩))), rfl, rfl, rfl⟩
    · obtain ⟨i, hi⟩ := Option.ne_none_iff_exists'.1 hp
      exact ⟨_, mem _ (.inr (.inr (.inr (.inl ⟨i, hi, rfl⟩)))), rfl, hi.symm, rfl⟩
    · exact ⟨_, mem _ (.inr (.inr (.inr (.inr (.inl ⟨hp, rfl⟩))))), rfl, rfl, rfl⟩
    · exact ⟨_, mem _ (.inr (.inr (.inr (.inr (.inr ⟨hp, rfl⟩))))), rfl, rfl, rfl⟩

/-! ### A halt or CLEAR WORK -/

/-- The tally with the pins of the undecided items given up. -/
def unpinAll (items : List Item) (table : List Entry) : List Entry :=
  (items.filter fun it => decide (it.stage ≠ .decided) && it.pinned).foldl (fun table it => unpin table it.key) table

theorem decidedAs_eq_held {reason : HoldReason} (it : Item) : it.decidedAs .hold reason = it.held reason := by
  simp [Item.decidedAs, Item.held]

theorem decideItem_cut {reason : HoldReason} (hcut : reason = .halted ∨ reason = .cleared) {before behind : List Item}
    {it : Item} (hitems : s.arrival.items = before ++ it :: behind) (hnodup : (s.arrival.items.map Item.tag).Nodup) :
    decideItem it.tag .hold reason s = { s with
      arrival := { s.arrival with items := before ++ it.cutShort reason :: behind }
      tally := { s.tally with table := unpinAll [it] s.tally.table } } := by
  have hf := find_of_append hitems hnodup
  by_cases hd : it.stage = .decided
  · rw [decideItem_decided hf hd, Item.cutShort, if_pos hd, ← hitems]
    simp [unpinAll, hd]
  · rw [decideItem_undecided hf hd, itemConditions_of_cut hcut, Item.cutShort, if_neg hd, State.decidedRecord, hitems,
      change_of_append (fun x => x.decidedAs .hold reason) (hitems ▸ hnodup), decidedAs_eq_held]
    cases hp : it.pinned <;> simp [occurAll, unpinAll, hd, hp]

theorem decideAll_eq {reason : HoldReason} (hcut : reason = .halted ∨ reason = .cleared)
    (hnodup : (s.arrival.items.map Item.tag).Nodup) : decideAll reason s = { s with
      arrival := { s.arrival with items := s.arrival.items.map (Item.cutShort reason) }
      tally := { s.tally with table := unpinAll s.arrival.items s.tally.table } } := by
  have key : ∀ (todo before : List Item) (u : State), u.arrival.items = before.map (Item.cutShort reason) ++ todo →
      ((before ++ todo).map Item.tag).Nodup →
      (todo.map Item.tag).foldl (fun s t => decideItem t .hold reason s) u = { u with
        arrival := { u.arrival with items := (before ++ todo).map (Item.cutShort reason) }
        tally := { u.tally with table := unpinAll todo u.tally.table } } := by
    have htag (it : Item) : (it.cutShort reason).tag = it.tag := by
      unfold Item.cutShort
      split <;> rfl
    have htags (l : List Item) : (l.map (Item.cutShort reason)).map Item.tag = l.map Item.tag := by
      rw [List.map_map]
      exact List.map_congr_left fun it _ => htag it
    intro todo
    induction todo with
    | nil =>
      intro before u hu _
      rw [List.append_nil] at hu ⊢
      rw [← hu]
      rfl
    | cons it todo ih =>
      intro before u hu hn
      have hn' : (u.arrival.items.map Item.tag).Nodup := by
        rwa [hu, List.map_append, htags, ← List.map_append]
      rw [List.map_cons, List.foldl_cons, decideItem_cut hcut hu hn', ih (before ++ [it])]
      · rw [List.append_assoc, List.singleton_append]
        simp only [unpinAll, List.filter_cons, List.filter_nil]
        split <;> rfl
      · simp
      · simpa using hn
  have := key s.arrival.items [] s rfl (by simpa using hnodup)
  simpa [decideAll] using this

/-! ## Aborts (R150) -/

theorem abort_kept (a : LineAccess) (rate : BitVec 2) : (a.abort rate).yield = a.yield ∧
    (a.abort rate).wave = if a.unit = .sending then jammedWave rate a.wave a.txElapsed else a.wave := by
  unfold LineAccess.abort
  cases hu : a.unit <;> simp [LineAccess.jam]

/-! ## The entry to HALTED (R185) -/

/-- The entry steps before the release. -/
def State.halting (s : State) : State :=
  { s with
    station := { s.station with state := .halted }
    tally := { s.tally with table := unpinAll s.arrival.items s.tally.table }
    arrival := { s.arrival with items := s.arrival.items.map (Item.cutShort .halted) }
    claim := { s.claim with corrections := [], greetingTimer := none }
    inquiry := {}
    line := { s.line with receiver := .stopped, idle := 0, assembler := .muted, discards := [], atCheck := [] }
    access := s.access.abort s.station.rate }

/-- The station HALTED and its frame in flight aborted. -/
def State.haltAborted (s : State) : State :=
  (s.setStation { s.station with state := .halted }).setAccess (s.access.abort s.station.rate)

/-- The pending work dropped and the receiver stopped. -/
def State.workDropped (s : State) : State :=
  ((s.setClaim { s.claim with corrections := [], greetingTimer := none }).setInquiry {}).setLine
    { s.line with receiver := .stopped, idle := 0, assembler := .muted, discards := [], atCheck := [] }

theorem enterHalted_steps (hr : s.station.state.receives = true) :
    enterHalted s = releaseItems (decideAll .halted s.haltAborted).workDropped := if_pos hr

theorem enterHalted_eq (hr : s.station.state.receives = true) (hnodup : (s.arrival.items.map Item.tag).Nodup) :
    enterHalted s = releaseItems s.halting := by
  rw [enterHalted_steps hr, decideAll_eq (s := s.haltAborted) (.inl rfl) hnodup]
  rfl

theorem enterHalted_of_deaf (hr : s.station.state.receives = false) : enterHalted s = s := if_neg (by simp [hr])

/-- The station is HALTED, whatever its queue. -/
theorem enterHalted_station (hr : s.station.state.receives = true) :
    (enterHalted s).station = { s.station with state := .halted } := by
  rw [enterHalted_steps hr, releaseItems_station]
  exact decideAll_station s.haltAborted .halted

theorem enterHalted_output (s : State) : ∃ more, (enterHalted s).port.output = s.port.output ++ more := by
  by_cases hr : s.station.state.receives = true
  · obtain ⟨more, hmore⟩ := releaseItems_output (decideAll .halted s.haltAborted).workDropped
    have hport : (decideAll .halted s.haltAborted).workDropped.port = s.port := decideAll_port s.haltAborted .halted
    exact ⟨more, by rw [enterHalted_steps hr, hmore, hport]⟩
  · exact ⟨[], by rw [enterHalted_of_deaf (Bool.eq_false_iff.2 hr), List.append_nil]⟩

theorem cutShort_decided {reason : HoldReason} (it : Item) : (it.cutShort reason).stage = .decided := by
  unfold Item.cutShort
  split
  · assumption
  · rfl

/-- Where every record is decided only the room on the output stream stops a release. -/
theorem Releases.full {gone stay : List Item} (h : Releases s gone stay) (hdecided : ∀ it ∈ s.arrival.items, it.stage = .decided)
    (hstay : stay ≠ []) : 8 ≤ dispositionCount s.port.output + gone.length := by
  obtain ⟨hitems, -, hstops, -⟩ := h
  obtain ⟨it, rest, rfl⟩ := List.exists_cons_of_ne_nil hstay
  refine (hstops it rfl).resolve_left fun hno => hno (hdecided it ?_)
  simp [hitems]

/-- What the release leaves of the blocks it does not concern. -/
theorem releaseItems_halted (hs : s.station.state = .halted) {gone stay : List Item}
    (heq : releaseItems s = finishClearWork (s.released gone stay)) :
    releaseItems s = { s with
      arrival := { s.arrival with items := stay }
      cond := { s.cond with
        pending := if gone ≠ [] ∧ stay = [] then s.cond.pending ||| s.cond.deferred else s.cond.pending
        deferred := if gone ≠ [] ∧ stay = [] then 0 else s.cond.deferred }
      port := (releaseItems s).port } := by
  have hcond := finishClearWork_halted_cond (s := s.released gone stay) hs
  have harrival := finishClearWork_arrival (s.released gone stay)
  rw [← heq] at hcond harrival
  have hstation := releaseItems_station s
  have htally := releaseItems_tally s
  have hclaim := releaseItems_claim s
  have hinquiry := releaseItems_inquiry s
  have hrules := releaseItems_rules s
  have hline := releaseItems_line s
  have haccess := releaseItems_access s
  have hwatch := releaseItems_watch s
  have hclock := releaseItems_clock s
  have hdraws := releaseItems_draws s
  have hpending := releaseItems_pending s
  generalize releaseItems s = t at *
  cases t
  simp only at *
  subst hcond harrival hstation htally hclaim hinquiry hrules hline haccess hwatch hclock hdraws hpending
  rfl

end Sys2Proof.Machine

open Sys2Proof Sys2Proof.Machine

/-- Settles O21: the record and the reports of a decision, the steps of the entry to HALTED, and the occurrence a parity
error makes. -/
theorem decisionSteps : Obligations.DecisionSteps := by
  unfold Obligations.DecisionSteps
  refine ⟨?_, ?_, ?_⟩
  · intro s it d reason hf hu
    dsimp only
    refine ⟨itemConditions (it.decidedAs d reason), ?_, itemConditions_ranks _, itemConditions_source _,
      fun hcut => itemConditions_of_cut (it := it.decidedAs d reason) hcut, fun hno c v e => ?_⟩
    · rw [decideItem_undecided hf hu, State.decidedRecord, unpin_eq]
      simp only [Item.decidedAs, beq_iff_eq, Bool.or_eq_true]
    · have hcut : ¬ ((it.decidedAs d reason).reason = .halted ∨ (it.decidedAs d reason).reason = .cleared) := hno
      have hwatch : (it.decidedAs d reason).watchMatch = it.watchMatch := if_neg (by simpa using hno)
      have hreject : (it.decidedAs d reason).disposition = some .reject ↔ d = .reject := Option.some_inj
      rw [exists_itemConditions_iff hcut, hwatch, hreject]
      rfl
  · intro s c d hrank
    refine ⟨fun hdeaf => enterHalted_of_deaf (by rwa [occur_station]), fun hr hnodup => ?_⟩
    dsimp only
    have hoccur : occur c d s = s.setCond (occur c d s).cond := by
      rw [occur_taken fun hs => by simp [hs, StationState.receives] at hr]
      rfl
    generalize (occur c d s).cond = noted at hoccur
    rw [haltOccurrence, hoccur, enterHalted_eq (s := s.setCond noted) hr hnodup]
    obtain ⟨gone, stay, hrel, heq⟩ := releaseItems_eq (s.setCond noted).halting
    have hblocks := releaseItems_halted rfl heq
    have haccess := releaseItems_access (s.setCond noted).halting
    have hdecided : ∀ it ∈ (s.setCond noted).halting.arrival.items, it.stage = .decided :=
      List.forall_mem_map.2 fun it _ => cutShort_decided it
    obtain ⟨hqueue, -⟩ := abort_queue s.access s.station.rate
    obtain ⟨hflight, hunit, -⟩ := abort_eq s.access s.station.rate
    obtain ⟨hyield, hwave⟩ := abort_kept s.access s.station.rate
    refine ⟨releaseItems (s.setCond noted).halting, gone, stay, rfl, hrel.items, hrel.full hdecided, hrel.room,
      hblocks.trans ?_, fun hwait => ?_, fun r rest hc hstay hb => ?_, ?_⟩
    · rw [haccess]
      rfl
    · rw [heq, finishClearWork_of_not_clearing (s := (s.setCond noted).halting.released gone stay) hwait]
      rfl
    · rw [heq, finishClearWork_halted (s := (s.setCond noted).halting.released gone stay) hc hstay rfl hb]
      rfl
    · rw [haccess]
      exact ⟨hqueue, hflight, hyield, hunit, hwave⟩
  · intro s k
    refine ⟨_, fun x hx => ?_, rfl⟩
    obtain ⟨read, -, rfl⟩ := Option.map_eq_some_iff.1 hx
    simp [portKey]
end

section
/-! Proofs about CLEAR WORK and READ ENTRY. -/

namespace Sys2Proof.Machine

variable {s : State}

/-! ## CLEAR WORK (R52, R78, R188) -/

/-- The transmit queue that CLEAR WORK leaves: in JOINING a new GREETING, unless the re-queue timer runs or a completed own
GREETING waits (R78). -/
def State.requeued (s : State) : List TxEntry :=
  if s.station.state == .joining && s.claim.greetingTimer.isNone && !greetingCompleted s then
    [{ owner := .greeting, place := 0 }]
  else []

theorem requeued_eq [Decidable (s.station.state = .joining ∧ s.claim.greetingTimer = none ∧
    ¬ ∃ f, s.line.holder = some f ∧ f.kind = .greeting)] : s.requeued =
    if s.station.state = .joining ∧ s.claim.greetingTimer = none ∧ ¬ (∃ f, s.line.holder = some f ∧ f.kind = .greeting) then
      [{ owner := .greeting, place := 0, attempts := 0, noRetry := false, inFlight := false }]
    else [] := by
  have hholder : greetingCompleted s = true ↔ ∃ f, s.line.holder = some f ∧ f.kind = .greeting := by
    unfold greetingCompleted
    cases s.line.holder <;> simp
  unfold State.requeued
  simp only [← hholder, Bool.and_eq_true, beq_iff_eq, Option.isNone_iff_eq_none, Bool.not_eq_true', and_assoc,
    Bool.not_eq_true]

theorem requeueGreeting_eq (s : State) :
    requeueGreeting s = s.setAccess { s.access with queue := s.access.queue ++ s.requeued } := by
  unfold requeueGreeting State.requeued
  split
  · rfl
  · rw [List.append_nil]
    rfl

/-- The steps of CLEAR WORK before the release. -/
def State.clearing (s : State) : State :=
  { s with
    tally := { s.tally with table := unpinAll s.arrival.items s.tally.table }
    arrival := { s.arrival with items := s.arrival.items.map (Item.cutShort .cleared) }
    claim := { s.claim with corrections := [] }
    inquiry := {}
    access := { s.access.abort s.station.rate with queue := s.requeued }
    port := { s.port with clearing := true } }

/-- The frame in flight aborted, and the pending corrections, inquiries and answers dropped. -/
def State.clearAborted (s : State) : State :=
  ((s.setAccess (s.access.abort s.station.rate)).setClaim { s.claim with corrections := [] }).setInquiry {}

theorem requeueGreeting_clearAborted (s : State) : requeueGreeting s.clearAborted =
    s.clearAborted.setAccess { s.access.abort s.station.rate with queue := s.requeued } := by
  obtain ⟨hqueue, -⟩ := abort_queue s.access s.station.rate
  rw [requeueGreeting_eq]
  change s.clearAborted.setAccess { s.access.abort s.station.rate with
    queue := (s.access.abort s.station.rate).queue ++ s.requeued } = _
  rw [hqueue, List.nil_append]

section
variable {r : Request} {rest : List Request} (h : Serving s r rest) (hrow : r.row = .clearWork) (hform : r.formOk = true)
include h hrow hform

theorem clearWork_refused (hst : s.station.state.transmits = false) : clearWork s = s.replied rest [r.kind, 3] :=
  serve_refusedState_replied h hrow hform hst

theorem clearWork_taken (hst : s.station.state.transmits = true) (hnodup : (s.arrival.items.map Item.tag).Nodup) :
    clearWork s = refresh (releaseItems s.clearing) := by
  rw [clearWork, serve_taken h hrow hform hst]
  change refresh (releaseItems ((decideAll .cleared (requeueGreeting s.clearAborted)).setPort
    { (decideAll .cleared (requeueGreeting s.clearAborted)).port with clearing := true })) = _
  rw [requeueGreeting_clearAborted, decideAll_eq (s := s.clearAborted.setAccess _) (.inr rfl) hnodup]
  rfl

end

/-- With room for every record the release empties the queue, and without it a record stays. -/
theorem Releases.stay_eq_nil_iff {gone stay : List Item} (h : Releases s gone stay)
    (hdecided : ∀ it ∈ s.arrival.items, it.stage = .decided) :
    stay = [] ↔ s.arrival.items = [] ∨ dispositionCount s.port.output + s.arrival.items.length ≤ 8 := by
  constructor
  · rintro rfl
    have hitems : s.arrival.items = gone := by simpa using h.items
    by_cases hgone : gone = []
    · exact .inl (hitems.trans hgone)
    · exact .inr (hitems ▸ h.room hgone)
  · intro hroom
    by_contra hstay
    have hfull := h.full hdecided hstay
    have hpos := List.length_pos_iff.2 hstay
    have hlen : s.arrival.items.length = gone.length + stay.length := by simp [h.items]
    rcases hroom with hnil | hroom
    · simp [hnil] at hlen
      omega
    · omega

/-- What CLEAR WORK leaves of the blocks that the release does not concern. -/
theorem refresh_releaseItems_blocks (s : State) :
    (refresh (releaseItems s)).tally = s.tally ∧ (refresh (releaseItems s)).claim = s.claim ∧
      (refresh (releaseItems s)).inquiry = s.inquiry ∧ (refresh (releaseItems s)).station = s.station ∧
      (refresh (releaseItems s)).rules = s.rules ∧ (refresh (releaseItems s)).line = s.line ∧
      (refresh (releaseItems s)).watch = s.watch ∧ (refresh (releaseItems s)).clock = s.clock ∧
      (refresh (releaseItems s)).draws = s.draws ∧ (refresh (releaseItems s)).pending = s.pending ∧
      (refresh (releaseItems s)).access = restUnit s.station.state s.access := by
  simp [refresh]

/-- A DEFERRING unit after an abort: where the queue holds anything and attempts begin. -/
theorem restUnit_abort {st : StationState} (hst : st.transmits = true) (a : LineAccess) (rate : BitVec 2)
    {queue : List TxEntry} (hq : ∀ e ∈ queue, e.inFlight = false) :
    (restUnit st { a.abort rate with queue := queue }).unit =
      if a.unit = .sending ∨ a.unit = .jamming then .jamming else if queue = [] then .quiet else .deferring := by
  obtain ⟨-, hunit, -⟩ := abort_eq a rate
  obtain ⟨unit, heq, hgoes, hrests⟩ := restUnit_eq st { a.abort rate with queue := queue }
  rw [heq]
  dsimp only at hgoes hrests ⊢
  rw [hunit] at hgoes hrests
  by_cases hbusy : a.unit = .sending ∨ a.unit = .jamming
  · rw [if_pos hbusy] at hgoes ⊢
    exact hgoes (.inr rfl)
  · rw [if_neg hbusy] at hrests ⊢
    obtain ⟨hdefers, hquiet⟩ := hrests (.inl rfl)
    split
    · rename_i hnil
      exact hquiet (by simp [hnil])
    · rename_i hne
      obtain ⟨e, he⟩ := List.exists_mem_of_ne_nil _ hne
      exact hdefers ⟨hst, e, he, hq e he⟩

/-- With the four sets clear neither pin is asserted in a state other than HALTED. -/
theorem drive_clearSets {st : Station} (hst : st.state ≠ .halted) (u : ConditionUnit) : u.clearSets.drive st =
    { u with recorded := 0, deferred := 0, pending := 0, inService := 0, attn := false, stop := false } := by
  unfold ConditionUnit.drive
  rw [attnLevel_of_noFlags rfl, stopLevel_of_noFlags rfl rfl hst]
  rfl

end Sys2Proof.Machine

open Sys2Proof Sys2Proof.Machine

/-- Settles O5, by the steps before the release and by what the release leaves. -/
theorem clearWorkEndsWorkInHand : Obligations.ClearWorkEndsWorkInHand := by
  unfold Obligations.ClearWorkEndsWorkInHand
  intro s rest h
  refine ⟨fun hst => congrArg Host.Outcome.next (clearWork_refused h rfl rfl hst), fun hst hnodup => ?_⟩
  dsimp only
  refine ⟨_, congrArg Host.Outcome.next (clearWork_taken h rfl rfl hst hnodup), ?_⟩
  obtain ⟨gone, stay, hrel, heq⟩ := releaseItems_eq s.clearing
  have hdecided : ∀ it ∈ s.clearing.arrival.items, it.stage = .decided :=
    List.forall_mem_map.2 fun it _ => cutShort_decided it
  have hlive : s.station.state ≠ .halted := fun hs => by simp [hs, StationState.transmits] at hst
  obtain ⟨htally, hclaim, hinquiry, hstation, hrules, hline, hwatch, hclock, hdraws, hpending, haccess⟩ :=
    refresh_releaseItems_blocks s.clearing
  have hnil := hrel.stay_eq_nil_iff hdecided
  refine ⟨fun hroom => ?_, fun hne hfull => ?_, ?_⟩
  · obtain rfl := hnil.2 hroom
    have hgone : gone = s.arrival.items.map (Item.cutShort .cleared) := (List.append_nil gone).symm.trans hrel.items.symm
    have hbuffer : (s.clearing.released gone []).port.buffer = { kind := 6, length := 0, payload := [] } :: rest :=
      (buffer_of_serving h : s.port.buffer = _)
    obtain ⟨-, hclearing, -⟩ := h
    rw [heq, finishClearWork_live (s := s.clearing.released gone []) rfl rfl hlive hbuffer, hgone]
    rw [hclearing]
    exact ⟨rfl, rfl, drive_clearSets hlive s.cond⟩
  · have hstay : stay ≠ [] := fun hs => by
      rcases hnil.1 hs with hnone | hroom
      · exact hne hnone
      · exact absurd hroom (Nat.not_le.2 hfull)
    have height := hrel.full hdecided hstay
    refine ⟨gone, stay, hrel.items, hstay, fun hgone => Nat.le_antisymm (hrel.room hgone) height, fun hgone => ?_, ?_⟩
    · rwa [hgone] at height
    · rw [heq, finishClearWork_of_not_clearing (s := s.clearing.released gone stay) (.inr hstay)]
      have hnot : ¬ (gone ≠ [] ∧ stay = []) := fun hboth => hstay hboth.2
      refine ⟨rfl, rfl, ?_⟩
      simp [refresh, State.released, hnot, ConditionUnit.drive, State.clearing]
  · rw [htally, hclaim, hinquiry, hstation, hrules, hline, hwatch, hclock, hdraws, hpending, haccess]
    obtain ⟨hflight, -⟩ := abort_eq s.access s.station.rate
    obtain ⟨hyield, hwave⟩ := abort_kept s.access s.station.rate
    obtain ⟨unit, hrest, -⟩ := restUnit_eq s.station.state s.clearing.access
    have hwaits : ∀ e ∈ s.requeued, e.inFlight = false := by
      unfold State.requeued
      split <;> simp
    refine ⟨rfl, rfl, rfl, rfl, ?_, ?_, ?_, ?_, ?_, rfl, rfl, rfl, rfl, rfl, rfl, rfl⟩
    · exact (congrArg LineAccess.queue hrest).trans requeued_eq
    · exact (congrArg LineAccess.yield hrest).trans hyield
    · exact (congrArg LineAccess.flight hrest).trans hflight
    · exact (restUnit_abort hst s.access s.station.rate hwaits).trans
        (by rw [show (restUnit s.clearing.station.state s.clearing.access).queue = s.requeued from
          congrArg LineAccess.queue hrest])
    · exact (congrArg LineAccess.wave hrest).trans hwave

section
namespace Sys2Proof.Machine

variable {s : State} {rest : List Request}

/-! ## READ ENTRY (R3, R24, R193) -/

/-- A READ ENTRY for the title of these characters and part number bytes (11.5.2). -/
def entryRequest (chars : List Byte) (p0 p1 : Byte) : Request := { kind := 8, length := 15, payload := chars ++ [p0, p1] }

/-- The entry that a READ ENTRY names: none where a character is no digit. -/
def State.entryNamed (s : State) (chars : List Byte) (part : BitVec 16) : Option Entry :=
  if chars.all isDigitChar then findEntry s.tally.table (keyOfChars chars part) else none

theorem entryRequest_fields {chars : List Byte} (hlen : chars.length = 13) (p0 p1 : Byte) :
    (entryRequest chars p0 p1).payload.take 13 = chars ∧ wordAt (entryRequest chars p0 p1).payload 13 = p1 ++ p0 := by
  obtain ⟨c0, c1, c2, c3, c4, c5, c6, c7, c8, c9, c10, c11, c12, rfl⟩ := exists_of_length_thirteen hlen
  exact ⟨rfl, rfl⟩

section
variable {chars : List Byte} (hlen : chars.length = 13) {p0 p1 : Byte} (h : Serving s (entryRequest chars p0 p1) rest)
  (hs : s.station.state ≠ .strapFault)
include hlen h hs

theorem readEntry_absent (hnone : s.entryNamed chars (p1 ++ p0) = none) : readEntry s = s.replied rest [8, 2] := by
  obtain ⟨hchars, hpart⟩ := entryRequest_fields hlen p0 p1
  rw [readEntry, serve_taken (row := .readEntry) h rfl rfl (servedState_iff.2 hs)]
  simp only [hchars, hpart]
  rw [show (if chars.all isDigitChar = true then _ else _) = s.entryNamed chars (p1 ++ p0) from rfl, hnone]
  exact answerRequest_eq (buffer_of_serving h)

theorem readEntry_found {e : Entry} (hsome : s.entryNamed chars (p1 ++ p0) = some e) : readEntry s =
    if e.parityOk then s.replied rest ([8, 0] ++ entryContent e (recencyOf s.tally.table (keyOfChars chars (p1 ++ p0))))
    else refresh (memoryFault e.key (s.replied rest [8, 2])) := by
  obtain ⟨hchars, hpart⟩ := entryRequest_fields hlen p0 p1
  rw [readEntry, serve_taken (row := .readEntry) h rfl rfl (servedState_iff.2 hs)]
  simp only [hchars, hpart]
  rw [show (if chars.all isDigitChar = true then _ else _) = s.entryNamed chars (p1 ++ p0) from rfl, hsome]
  simp only [answerRequest_eq (buffer_of_serving h)]
  rfl

end

/-- R3: a parity error leaves the station HALTED, and what stands on the output stream stays at its front. -/
theorem memoryFault_halts (hs : s.station.state ≠ .strapFault) (k : TitleKey) :
    (memoryFault k s).station.state = .halted ∧ ∃ more, (memoryFault k s).port.output = s.port.output ++ more := by
  unfold memoryFault haltOccurrence
  constructor
  · by_cases hr : s.station.state.receives = true
    · rw [enterHalted_station (by simpa using hr)]
    · have hdeaf : s.station.state.receives = false := Bool.eq_false_iff.2 hr
      rw [enterHalted_of_deaf (by simpa using hdeaf), occur_station]
      cases hst : s.station.state <;> simp_all [StationState.receives]
  · obtain ⟨more, hmore⟩ := enterHalted_output (occur .tallyMemoryFault
      { condition := .tallyMemoryFault, source := .station
        title := (Config.keyAsFarAsRead s.draws k).map fun read => portKey { digits := read.1.toList, part := read.2 } }
      (s.setDraws (s.draws + 1)))
    exact ⟨more, hmore.trans (by rw [occur_port]; rfl)⟩

theorem entryContent_eq (e : Entry) (n : Nat) : entryContent e n =
    [byteOf e.count] ++ wordBytes (e.refMass.getD 65535) ++
      [if e.certainty = .certain then 1 else 0, byteOf ((e.lastClaim.map fun c => c.1.toNat).getD 0),
        (e.lastClaim.map Prod.snd).getD 0, byteOf e.pins] ++ wordBytes n := by
  have hcode : e.certainty.code = if e.certainty = .certain then 1 else 0 := by cases e.certainty <;> rfl
  rw [← hcode]
  rfl

end Sys2Proof.Machine
end

/-- Settles O7: the four answers, by what the tally holds of the title. -/
theorem readEntryReplies : Obligations.ReadEntryReplies := by
  unfold Obligations.ReadEntryReplies
  intro s rest chars p0 p1 hlen hserving
  dsimp only
  have h : Serving s (entryRequest chars p0 p1) rest := hserving
  have named (hdec : ∀ c ∈ chars, 48 ≤ c.toNat ∧ c.toNat ≤ 57) : s.entryNamed chars (p1 ++ p0) =
      findEntry s.tally.table { digits := chars.map fun c => BitVec.ofNat 4 (c.toNat - 48), part := p1 ++ p0 } := by
    rw [State.entryNamed, if_pos (all_digits_iff.2 hdec), keyOfChars, map_digitOfChar hdec]
  refine ⟨fun hs => ?_, fun hs => ⟨fun hnone => ?_, fun e hdec hfind hok => ?_, fun e hdec hfind hbad => ?_⟩⟩
  · exact congrArg Host.Outcome.next (serve_strapFault_replied h rfl rfl hs)
  · refine congrArg Host.Outcome.next (readEntry_absent hlen h hs ?_)
    by_cases hdec : ∀ c ∈ chars, 48 ≤ c.toNat ∧ c.toNat ≤ 57
    · rw [named hdec]
      exact hnone.resolve_left (not_not_intro hdec)
    · exact if_neg (mt all_digits_iff.1 hdec)
  · refine congrArg Host.Outcome.next ((readEntry_found hlen h hs ((named hdec).trans hfind)).trans ?_)
    rw [if_pos hok, entryContent_eq, keyOfChars, map_digitOfChar hdec]
    rfl
  · have hread := readEntry_found hlen h hs ((named hdec).trans hfind)
    rw [if_neg (by simp [hbad])] at hread
    obtain ⟨hhalted, more, hmore⟩ := memoryFault_halts (s := s.replied rest [8, 2]) hs e.key
    exact ⟨_, more, congrArg Host.Outcome.next hread, hhalted, hmore⟩
end

section
/-! Proofs about the request assembler and the lane port's events, the settle expiry, the class of a title, and the watch
scan. -/

namespace Sys2Proof.Machine

variable {s : State}

/-! ## The request assembler (R190) -/

theorem exec_requestCharacterReceived (hon : s.station.powerGood = true) (b : Byte) :
    exec (.requestCharacterReceived b) s = .next
      { s with port := { s.port with
        assembler := (assembleRequest s.port.assembler b).1, gap := 0
        complete := s.port.complete ++ (assembleRequest s.port.assembler b).2.toList } } :=
  congrArg Host.Outcome.next (powered_on hon)

theorem assembleRequest_length (k b : Byte) (p : List Byte) (n : Nat) : assembleRequest (.assembling k none p n) b =
    if b = 0 then (.idle, some { kind := k, length := 0, payload := [] }) else (.assembling k (some b) [] 0, none) := by
  simp only [assembleRequest, beq_iff_eq]

theorem assembleRequest_payload (k len b : Byte) (p : List Byte) (n : Nat) :
    assembleRequest (.assembling k (some len) p n) b =
      if n + 1 = len.toNat then
        (.idle, some { kind := k, length := len, payload := if len.toNat ≤ 40 then p ++ [b] else p })
      else (.assembling k (some len) (if len.toNat ≤ 40 then p ++ [b] else p) (n + 1), none) := rfl

end Sys2Proof.Machine

open Sys2Proof Sys2Proof.Machine

/-- Settles O22, by the state the character finds. -/
theorem requestCharacterAssembled : Obligations.RequestCharacterAssembled := by
  unfold Obligations.RequestCharacterAssembled
  intro s b hon after
  rw [exec_requestCharacterReceived hon]
  refine ⟨fun ha => ?_, fun ha => ?_, fun k p n ha => ?_, fun k len p n ha => ?_⟩
  · rw [ha]
    rfl
  · rw [ha]
    rfl
  · rw [ha, assembleRequest_length]
    refine ⟨fun hb => ?_, fun hb => ?_⟩
    · rw [if_pos hb]
      rfl
    · rw [if_neg hb]
      rfl
  · rw [ha, assembleRequest_payload]
    refine ⟨fun hn => ?_, fun hn => ?_⟩
    · rw [if_pos hn]
      rfl
    · rw [if_neg hn]
      rfl

/-- Settles O29, by the three ranges of the ordinal, and by the two guards of the command. -/
theorem settleExpiryMapsOrdinal : Obligations.SettleExpiryMapsOrdinal := by
  unfold Obligations.SettleExpiryMapsOrdinal
  intro s tag it hon hf
  have hexec : exec (.settleExpiry tag) s = .next (settleExpiry tag s) := congrArg Host.Outcome.next (powered_on hon)
  have hexpiry : settleExpiry tag s =
      if s.station.state.transmits && it.stage == .settling && it.settle.isSome then
        refresh (decideItem tag (dispositionOf (s.rules.classAt it.cls) (it.ordinal.getD 0)) .none s)
      else s := by
    unfold settleExpiry
    rw [hf]
  rw [hexec, hexpiry]
  refine ⟨fun k c time hst hstage hk hc htime _ => ?_, fun hdecided => ?_, fun hnone => ?_⟩
  · have hclass : s.rules.classAt it.cls = c := by simp [Rules.classAt, hc]
    refine ⟨dispositionOf c k, ?_, fun h => ?_, fun ⟨h1, h2⟩ => ?_, fun h => ?_⟩
    · rw [if_pos (by simp [hst, hstage, htime]), hclass, hk]
      rfl
    · exact if_pos h
    · rw [dispositionOf, if_neg (by omega), if_pos h2]
    · rw [dispositionOf, if_neg (by omega), if_neg (by omega)]
  · rw [if_neg (by simp [hdecided])]
  · rw [if_neg (by simp [hnone])]

section
namespace Sys2Proof.Machine

/-! ## The watch scan (R154, R156) -/

/-- Whether a watch entry wins an event, in the words of R154 and R156. -/
def WatchEntry.Wins (w : WatchEntry) (k : TitleKey) (e : WatchEvent) : Prop :=
  w.valid = true ∧ w.digits = k.digits ∧ (∀ p, w.part = some p → p = k.part) ∧ w.events.getLsbD e.index = true

theorem wins_iff {w : WatchEntry} {k : TitleKey} {e : WatchEvent} : w.wins k e = true ↔ w.Wins k e := by
  unfold WatchEntry.wins WatchEntry.matchesKey WatchEntry.Wins
  cases w.part <;> simp [and_assoc]

theorem scanFrom_eq_some_iff {k : TitleKey} {e : WatchEvent} {list : List WatchEntry} : ∀ {n i : Nat},
    scanFrom k e list n = some i ↔ ∃ before w behind, list = before ++ w :: behind ∧ n + before.length = i ∧ w.Wins k e ∧
      ∀ x ∈ before, ¬ x.Wins k e ∧ x.endOfList = false := by
  induction list with
  | nil => simp [scanFrom]
  | cons w rest ih =>
    intro n i
    unfold scanFrom
    by_cases hw : w.Wins k e
    · rw [if_pos (wins_iff.2 hw), Option.some_inj]
      constructor
      · rintro rfl
        exact ⟨[], w, rest, rfl, rfl, hw, by simp⟩
      · rintro ⟨before, x, behind, hlist, hi, -, hbefore⟩
        cases before with
        | nil => simpa using hi
        | cons y before =>
          cases hlist
          exact absurd hw (hbefore w List.mem_cons_self).1
    · rw [if_neg (mt wins_iff.1 hw)]
      by_cases hend : w.endOfList = true
      · rw [if_pos hend]
        refine ⟨nofun, ?_⟩
        rintro ⟨before, x, behind, hlist, -, hx, hbefore⟩
        cases before with
        | nil =>
          cases hlist
          exact absurd hx hw
        | cons y before =>
          cases hlist
          exact absurd hend (by simp [(hbefore w List.mem_cons_self).2])
      · rw [if_neg hend, ih]
        constructor
        · rintro ⟨before, x, behind, rfl, rfl, hx, hbefore⟩
          refine ⟨w :: before, x, behind, rfl, by simp; omega, hx, List.forall_mem_cons.2 ⟨⟨hw, by simpa using hend⟩, hbefore⟩⟩
        · rintro ⟨before, x, behind, hlist, rfl, hx, hbefore⟩
          cases before with
          | nil =>
            cases hlist
            exact absurd hx hw
          | cons y before =>
            cases hlist
            exact ⟨before, x, behind, rfl, by simp; omega, hx, (List.forall_mem_cons.1 hbefore).2⟩

theorem addHit_append (before behind : List WatchEntry) (w : WatchEntry) :
    addHit (before ++ w :: behind) before.length = before ++ { w with hits := min 255 (w.hits + 1) } :: behind := by
  induction before with
  | nil => rfl
  | cons x before ih => exact congrArg (x :: ·) ih

end Sys2Proof.Machine
end

/-- Settles O34, by the place of the winner in the list. -/
theorem watchScanFindsWinner : Obligations.WatchScanFindsWinner := by
  unfold Obligations.WatchScanFindsWinner
  intro list k e wins
  have hwins (w : WatchEntry) : w.Wins k e ↔ wins w := by cases e <;> rfl
  refine ⟨fun i => ?_, ?_⟩
  · rw [scanFrom_eq_some_iff]
    simp only [hwins, Nat.zero_add]
  · rintro before w behind rfl
    exact addHit_append before behind w

section
namespace Sys2Proof.Machine

/-! ## The class of a title (R105, R106) -/

theorem covers_iff {g : PublisherRange} {x : Nat} : g.covers x = true ↔ g.enable = true ∧ g.low ≤ x ∧ x ≤ g.high := by
  simp [PublisherRange.covers, and_assoc]

/-- The class is that of the first range that covers the number. -/
theorem classOfPublisher_eq {r : Rules} {x i : Nat} {g : PublisherRange} (hi : r.ranges[i]? = some g)
    (hg : g.covers x = true) (hfirst : ∀ j < i, ∀ y, r.ranges[j]? = some y → ¬ y.covers x = true) :
    r.classOfPublisher (some x) = g.cls := by
  have hfind : r.ranges.find? (fun g => g.covers x) = some g := by
    rw [List.find?_eq_some_iff_getElem]
    obtain ⟨hlt, hget⟩ := List.getElem?_eq_some_iff.1 hi
    refine ⟨hg, i, hlt, hget, fun j hj => ?_⟩
    simpa using hfirst j hj _ (List.getElem?_eq_getElem (Nat.lt_trans hj hlt))
  simp [Rules.classOfPublisher, hfind]

theorem classOfPublisher_eq_zero {r : Rules} {x : Nat} (h : ∀ g ∈ r.ranges, ¬ g.covers x = true) :
    r.classOfPublisher (some x) = 0 := by
  have hfind : r.ranges.find? (fun g => g.covers x) = none := List.find?_eq_none.2 h
  simp [Rules.classOfPublisher, hfind]

/-- The number that five decimal digits make. -/
theorem decimalValue_five (a b c d e : BitVec 4) : decimalValue [a, b, c, d, e] =
    if a.toNat ≤ 9 ∧ b.toNat ≤ 9 ∧ c.toNat ≤ 9 ∧ d.toNat ≤ 9 ∧ e.toNat ≤ 9 then
      some (10000 * a.toNat + 1000 * b.toNat + 100 * c.toNat + 10 * d.toNat + e.toNat)
    else none := by
  have hall : ([a, b, c, d, e].all fun x => decide (x.toNat ≤ 9)) = true ↔
      a.toNat ≤ 9 ∧ b.toNat ≤ 9 ∧ c.toNat ≤ 9 ∧ d.toNat ≤ 9 ∧ e.toNat ≤ 9 := by simp
  have hsum : [a, b, c, d, e].foldl (fun acc x => 10 * acc + x.toNat) 0 =
      10000 * a.toNat + 1000 * b.toNat + 100 * c.toNat + 10 * d.toNat + e.toNat := by
    simp only [List.foldl_cons, List.foldl_nil]
    omega
  simp only [decimalValue, hall, hsum]

end Sys2Proof.Machine
end

/-- Settles O31, by the first range that covers the number the five digits make. -/
theorem classOfTitle : Obligations.ClassOfTitle := by
  unfold Obligations.ClassOfTitle
  intro r a b c d e rest part
  dsimp only
  have hkey : r.classOfKey { digits := a :: b :: c :: d :: e :: rest, part := part } =
      r.classOfPublisher (decimalValue [a, b, c, d, e]) := rfl
  rw [hkey, decimalValue_five]
  refine ⟨fun i g hdec hi hg hfirst => ?_, ?_, fun chars hchars hdigits => ?_, fun chars hbad => ?_⟩
  · rw [if_pos hdec]
    exact classOfPublisher_eq hi (covers_iff.2 hg) fun j hj y hy => mt covers_iff.1 (hfirst j hj y hy)
  · intro h
    by_cases hdec : a.toNat ≤ 9 ∧ b.toNat ≤ 9 ∧ c.toNat ≤ 9 ∧ d.toNat ≤ 9 ∧ e.toNat ≤ 9
    · rw [if_pos hdec]
      exact classOfPublisher_eq_zero fun g hg => mt covers_iff.1 (h.resolve_right (not_not_intro hdec) g hg)
    · rw [if_neg hdec]
      rfl
  · rw [Rules.classOfChars, if_pos (all_digits_iff.2 hchars), hdigits, decimalValue_five]
  · rw [Rules.classOfChars, if_neg]
    · rfl
    · rw [all_isDigitChar_iff]
      exact not_not_intro hbad
end

section
/-! Proofs about the samples of the two lines and what the two receivers make of them. -/

namespace Sys2Proof.Machine

/-! ## Samples of bits (R120) -/

@[simp] theorem samplesOf_length (bits : List Bool) : (samplesOf bits).length = 16 * bits.length := by
  simp [samplesOf, List.length_flatMap, Nat.mul_comm]

theorem samplesOf_append (a b : List Bool) : samplesOf (a ++ b) = samplesOf a ++ samplesOf b := List.flatMap_append

theorem samplesOf_cons (b : Bool) (bits : List Bool) : samplesOf (b :: bits) = List.replicate 16 b ++ samplesOf bits := rfl

theorem samplesOf_getElem? (bits : List Bool) : ∀ (k : Nat) {j : Nat}, j < 16 → (samplesOf bits)[16 * k + j]? = bits[k]? := by
  induction bits with
  | nil => simp [samplesOf]
  | cons b bits ih =>
    intro k j hj
    rw [samplesOf_cons]
    cases k with
    | zero =>
      rw [Nat.mul_zero, Nat.zero_add, List.getElem?_append_left (by simpa using hj), List.getElem?_replicate_of_lt hj]
      rfl
    | succ k =>
      rw [List.getElem?_append_right (by simp; omega), List.length_replicate,
        show 16 * (k + 1) + j - 16 = 16 * k + j by omega, ih k hj, List.getElem?_cons_succ]

/-! ## The value of a bit time (R121) -/

/-- Samples 7 to 9 of bit time `k` all read `v`. -/
def Steady (samples : List Bool) (k : Nat) (v : Bool) : Prop := ∀ j, 6 ≤ j → j ≤ 8 → samples[16 * k + j]? = some v

section
variable {samples : List Bool} {k : Nat} {v : Bool}

theorem Steady.bitSamples (h : Steady samples k v) : bitSamples samples k = (v, v, v) := by
  simp only [Machine.bitSamples, List.getD, h 6 (by omega) (by omega), h 7 (by omega) (by omega), h 8 (by omega) (by omega),
    Option.getD_some]

theorem Steady.bitValue (h : Steady samples k v) : bitValue samples k = v := by
  simp [Machine.bitValue, h.bitSamples, majority]

theorem Steady.bitNoisy (h : Steady samples k v) : bitNoisy samples k = false := by
  simp [Machine.bitNoisy, h.bitSamples]

theorem steady_samplesOf {bits : List Bool} (h : bits[k]? = some v) : Steady (samplesOf bits) k v :=
  fun j _ hj => (samplesOf_getElem? bits k (by omega)).trans h

theorem Steady.append (h : Steady samples k v) (more : List Bool) : Steady (samples ++ more) k v := fun j h6 h8 => by
  obtain ⟨hlt, -⟩ := List.getElem?_eq_some_iff.1 (h j h6 h8)
  rw [List.getElem?_append_left hlt, h j h6 h8]

theorem Steady.take (h : Steady samples k v) {n : Nat} (hn : 16 * k + 8 < n) : Steady (samples.take n) k v :=
  fun j h6 h8 => by rw [List.getElem?_take_of_lt (by omega), h j h6 h8]

end

/-- Eight bits, least significant first, make their byte. -/
theorem byteOf_byteOfBits (d : Byte) : byteOf (byteOfBits ((List.range 8).map d.getLsbD)) = d := by
  revert d
  decide

/-! ## A receiver in a character -/

/-- A receiver that collects samples and judges them takes a run in one go, where no part of it ends the collecting. -/
theorem takeAll_collect {R : Type} {take : R → Bool → R × List Instr} {collecting : List Bool → R}
    {judge : List Bool → R × List Instr} (htake : ∀ acc b, take (collecting acc) b = judge (acc ++ [b])) :
    ∀ (ys acc : List Bool), ys ≠ [] →
      (∀ n, 0 < n → n < ys.length → judge (acc ++ ys.take n) = (collecting (acc ++ ys.take n), [])) →
      takeAll take (collecting acc) ys = judge (acc ++ ys) := by
  intro ys
  induction ys with
  | nil => exact fun _ h => absurd rfl h
  | cons b rest ih =>
    intro acc _ hquiet
    unfold takeAll
    rw [htake]
    by_cases hnil : rest = []
    · subst hnil
      simp [takeAll]
    · have hfirst := hquiet 1 (by omega) (by simpa using List.length_pos_iff.2 hnil)
      simp only [List.take_succ_cons, List.take_zero] at hfirst
      have hrest := ih (acc ++ [b]) hnil fun n hn hlt => by
        have := hquiet (n + 1) (by omega) (by simpa using hlt)
        simpa using this
      simp only [hfirst, hrest, List.nil_append, List.append_assoc, List.singleton_append]

/-! ## The dock line receiver in a character (R120 to R122) -/

section
variable {d : Byte} {m : Bool} {samples : List Bool}

/-- The eleven bits, by number. -/
theorem characterBits_getElem? (d : Byte) (m : Bool) :
    (characterBits d m)[0]? = some false ∧ (∀ k < 8, (characterBits d m)[k + 1]? = some (d.getLsbD k)) ∧
      (characterBits d m)[9]? = some m ∧ (characterBits d m)[10]? = some true := by
  refine ⟨rfl, fun k hk => ?_, rfl, rfl⟩
  interval_cases k <;> rfl

/-- Samples that give the eleven bits of a character their values are received as that character. -/
theorem receive_of_bitValues (h : ∀ k < 11, some (bitValue samples k) = (characterBits d m)[k]?) :
    receive samples = .character d m ((List.range 11).any (bitNoisy samples)) := by
  obtain ⟨hstart, hdata, hmark, hstop⟩ := characterBits_getElem? d m
  have h0 : bitValue samples 0 = false := Option.some.inj ((h 0 (by omega)).trans hstart)
  have h9 : bitValue samples 9 = m := Option.some.inj ((h 9 (by omega)).trans hmark)
  have h10 : bitValue samples 10 = true := Option.some.inj ((h 10 (by omega)).trans hstop)
  have hbits : (List.range 8).map (fun k => bitValue samples (k + 1)) = (List.range 8).map d.getLsbD :=
    List.map_congr_left fun k hk => by
      have hlt := List.mem_range.1 hk
      exact Option.some.inj ((h (k + 1) (by omega)).trans (hdata k hlt))
  simp only [receive, h0, h9, h10, hbits, byteOf_byteOfBits, Bool.false_eq_true, if_false, if_true]

theorem receive_of_steady (h : ∀ k < 11, ∀ v, (characterBits d m)[k]? = some v → Steady samples k v) :
    receive samples = .character d m false := by
  have steady (k : Nat) (hk : k < 11) : ∃ v, (characterBits d m)[k]? = some v ∧ Steady samples k v := by
    obtain ⟨v, hv⟩ : ∃ v, (characterBits d m)[k]? = some v := ⟨_, List.getElem?_eq_getElem (by simpa using hk)⟩
    exact ⟨v, hv, h k hk v hv⟩
  have hclean : (List.range 11).any (bitNoisy samples) = false := by
    rw [List.any_eq_false]
    intro k hk
    obtain ⟨v, -, hs⟩ := steady k (List.mem_range.1 hk)
    simp [hs.bitNoisy]
  rw [receive_of_bitValues fun k hk => ?_, hclean]
  obtain ⟨v, hv, hs⟩ := steady k hk
  rw [hs.bitValue, hv]

theorem steady_character {k : Nat} {v : Bool} (hv : (characterBits d m)[k]? = some v) :
    Steady (samplesOf (characterBits d m)) k v := steady_samplesOf hv

end

section
variable {xs acc : List Bool}

theorem inCharacterOn_quiet (h9 : acc.length ≠ 9) (hlt : acc.length < 169) :
    Sampler.inCharacterOn acc = (.inCharacter acc, []) := by
  simp [Sampler.inCharacterOn, h9, hlt]

/-- The start bit is judged at its ninth sample. -/
theorem sampleDockLine_start (hlen : xs.length = 8) :
    sampleDockLine (.watching true) (false :: xs) = Sampler.inCharacterOn (false :: xs) := by
  have hrun : sampleDockLine (.inCharacter [false]) xs = Sampler.inCharacterOn ([false] ++ xs) := by
    refine takeAll_collect (fun _ _ => rfl) xs [false] (by rintro rfl; cases hlen) fun n h0 hn => ?_
    have hshort : ([false] ++ xs.take n).length = n + 1 := by simp; omega
    exact inCharacterOn_quiet (by omega) (by omega)
  simpa [sampleDockLine, takeAll, Sampler.take] using hrun

/-- From the start bit on the receiver collects samples to the ninth of the stop bit. -/
theorem sampleDockLine_stop (hacc : acc.length = 9) (hlen : xs.length = 160) :
    sampleDockLine (.inCharacter acc) xs = Sampler.inCharacterOn (acc ++ xs) := by
  refine takeAll_collect (fun _ _ => rfl) xs acc (by rintro rfl; cases hlen) fun n h0 hn => ?_
  have hshort : (acc ++ xs.take n).length = n + 9 := by simp; omega
  exact inCharacterOn_quiet (by omega) (by omega)

/-- A validated start bit is reported, and the character judged at the ninth sample of its stop bit. -/
theorem sampleDockLine_character (hlen : xs.length = 169) (hfirst : xs[0]? = some false) (hstart : Steady xs 0 false) :
    sampleDockLine (.watching true) xs =
      ((Sampler.inCharacterOn xs).1, .startBitSeen :: (Sampler.inCharacterOn xs).2) := by
  have hsplit : xs = xs.take 9 ++ xs.drop 9 := (List.take_append_drop 9 xs).symm
  have htake : (xs.take 9).length = 9 := by simp [hlen]
  have hvalid : bitValue (xs.take 9) 0 = false := (hstart.take (by omega)).bitValue
  have hstarted : sampleDockLine (.watching true) (xs.take 9) = (.inCharacter (xs.take 9), [.startBitSeen]) := by
    obtain ⟨b, rest, hxs⟩ : ∃ b rest, xs = b :: rest := by
      cases xs with
      | nil => cases hfirst
      | cons b rest => exact ⟨b, rest, rfl⟩
    obtain rfl : b = false := by simpa [hxs] using hfirst
    have hcons : xs.take 9 = false :: rest.take 8 := by rw [hxs]; rfl
    rw [hcons] at hvalid ⊢
    rw [sampleDockLine_start (by simpa [hcons] using htake)]
    simp [Sampler.inCharacterOn, show (rest.take 8).length = 8 by simpa [hcons] using htake, hvalid]
  have hstopped := sampleDockLine_stop htake (xs := xs.drop 9) (by simp [hlen])
  rw [← hsplit] at hstopped
  conv_lhs => rw [hsplit]
  unfold sampleDockLine at *
  rw [takeAll_append, hstarted]
  simp [hstopped]

/-- A line that stays high is watched. -/
theorem sampleDockLine_high (n : Nat) : sampleDockLine (.watching true) (List.replicate n true) = (.watching true, []) := by
  induction n with
  | zero => rfl
  | succ n ih =>
    have hstep : sampleDockLine (.watching true) (List.replicate (n + 1) true) =
        ((sampleDockLine (.watching true) (List.replicate n true)).1,
          (sampleDockLine (.watching true) (List.replicate n true)).2) := rfl
    rw [hstep, ih]

end

/-- The line command of a character. -/
def characterCommand (d : Byte) (m noisy : Bool) : Instr :=
  if m then .headerReceived d noisy else .payloadCharacterReceived d noisy

theorem character_command (d : Byte) (m n : Bool) : (Reception.character d m n).command = some (characterCommand d m n) := by
  cases m <;> rfl

/-- A run of bits as samples up to the ninth of its last bit, and the rest of that bit. -/
theorem samplesOf_concat (bits : List Bool) (v : Bool) :
    samplesOf (bits ++ [v]) = (samplesOf (bits ++ [v])).take (16 * bits.length + 9) ++ List.replicate 7 v := by
  have hlast : samplesOf [v] = List.replicate 9 v ++ List.replicate 7 v := rfl
  rw [samplesOf_append, hlast, ← List.append_assoc, List.take_left' (by simp)]

/-- The samples of a character up to the ninth of its stop bit. -/
def characterSamples (d : Byte) (m : Bool) : List Bool := (samplesOf (characterBits d m)).take 169

theorem samplesOf_characterBits (d : Byte) (m : Bool) :
    samplesOf (characterBits d m) = characterSamples d m ++ List.replicate 7 true :=
  samplesOf_concat (false :: (List.range 8).map d.getLsbD ++ [m]) true

theorem characterSamples_length (d : Byte) (m : Bool) : (characterSamples d m).length = 169 := by simp [characterSamples]

theorem steady_characterSamples {d : Byte} {m : Bool} {k : Nat} (hk : k < 11) {v : Bool}
    (hv : (characterBits d m)[k]? = some v) : Steady (characterSamples d m) k v :=
  (steady_character hv).take (by omega)

/-- Sample by sample: the start bit and the character are reported, and the receiver watches the high line again. -/
theorem sampleDockLine_characterBits (d : Byte) (m : Bool) :
    sampleDockLine (.watching true) (samplesOf (characterBits d m)) =
      (.watching true, [.startBitSeen, characterCommand d m false]) := by
  have hlen := characterSamples_length d m
  obtain ⟨hstart, -, -, hstop⟩ := characterBits_getElem? d m
  have hlast : (characterSamples d m).getD 168 true = true := by
    have := steady_characterSamples (by omega) hstop 8 (by omega) (by omega)
    simp [List.getD, this]
  have hjudged : Sampler.inCharacterOn (characterSamples d m) = (.watching true, [characterCommand d m false]) := by
    simp only [Sampler.inCharacterOn, hlen, (steady_characterSamples (by omega) hstop).bitValue,
      receive_of_steady fun k hk v hv => steady_characterSamples hk hv, character_command, hlast]
    rfl
  have hstarted := sampleDockLine_character hlen rfl (steady_characterSamples (by omega) hstart)
  have hhigh := sampleDockLine_high 7
  rw [hjudged] at hstarted
  rw [samplesOf_characterBits]
  unfold sampleDockLine at *
  rw [takeAll_append, hstarted]
  dsimp only
  rw [hhigh]
  rfl

end Sys2Proof.Machine
end

section
/-! Proofs about the dock line receiver: noise, false starts, framing errors, breaks, its first wait, and the sample
intervals. -/

namespace Sys2Proof.Machine

/-! ## One sample inverted (R121) -/

section
variable {samples : List Bool} {k j : Nat} {v : Bool}

theorem Steady.modify_ne (h : Steady samples k v) {i : Nat} (hi : ∀ j, 6 ≤ j → j ≤ 8 → i ≠ 16 * k + j) :
    Steady (samples.modify i not) k v := fun j h6 h8 => by
  rw [List.getElem?_modify, h j h6 h8, Option.map_eq_map, Option.map_some, if_neg (hi j h6 h8)]

theorem Steady.bitSamples_modify (h : Steady samples k v) (j : Nat) :
    Machine.bitSamples (samples.modify (16 * k + j) not) k =
      (if j = 6 then !v else v, if j = 7 then !v else v, if j = 8 then !v else v) := by
  have value (i : Nat) (h6 : 6 ≤ i) (h8 : i ≤ 8) :
      (samples.modify (16 * k + j) not).getD (16 * k + i) true = if j = i then !v else v := by
    rw [List.getD, List.getElem?_modify, h i h6 h8]
    by_cases hji : j = i
    · simp [hji]
    · simp [hji]
  simp only [Machine.bitSamples, value 6 (by omega) (by omega), value 7 (by omega) (by omega),
    value 8 (by omega) (by omega)]

/-- The majority stands against one inverted sample, which makes the bit noisy. -/
theorem Steady.modify_self (h : Steady samples k v) (h6 : 6 ≤ j) (h8 : j ≤ 8) :
    Machine.bitValue (samples.modify (16 * k + j) not) k = v ∧
      Machine.bitNoisy (samples.modify (16 * k + j) not) k = true := by
  simp only [Machine.bitValue, Machine.bitNoisy, h.bitSamples_modify]
  obtain rfl | rfl | rfl : j = 6 ∨ j = 7 ∨ j = 8 := by omega
  all_goals cases v <;> decide

end

theorem receive_one_inverted (d : Byte) (m : Bool) {k j : Nat} (hk : k < 11) (h6 : 6 ≤ j) (h8 : j ≤ 8) :
    receive ((samplesOf (characterBits d m)).modify (16 * k + j) not) = .character d m true := by
  have steady (i : Nat) (hi : i < 11) : ∃ v, (characterBits d m)[i]? = some v ∧ Steady (samplesOf (characterBits d m)) i v := by
    obtain ⟨v, hv⟩ : ∃ v, (characterBits d m)[i]? = some v := ⟨_, List.getElem?_eq_getElem (by simpa using hi)⟩
    exact ⟨v, hv, steady_character hv⟩
  have hnoisy : (List.range 11).any (bitNoisy ((samplesOf (characterBits d m)).modify (16 * k + j) not)) = true := by
    obtain ⟨v, -, hs⟩ := steady k hk
    exact List.any_eq_true.2 ⟨k, List.mem_range.2 hk, (hs.modify_self h6 h8).2⟩
  rw [receive_of_bitValues fun i hi => ?_, hnoisy]
  obtain ⟨v, hv, hs⟩ := steady i hi
  rw [hv]
  by_cases hik : i = k
  · subst hik
    rw [(hs.modify_self h6 h8).1]
  · rw [(hs.modify_ne fun j' _ h8' => by omega).bitValue]

/-! ## False starts (R120) -/

theorem bitValue_of_two {samples : List Bool} {i j : Nat} (h6 : 6 ≤ i) (hij : i < j) (h8 : j ≤ 8)
    (hi : samples[i]? = some true) (hj : samples[j]? = some true) : bitValue samples 0 = true := by
  obtain ⟨rfl, rfl⟩ | ⟨rfl, rfl⟩ | ⟨rfl, rfl⟩ : (i = 6 ∧ j = 7) ∨ (i = 6 ∧ j = 8) ∨ (i = 7 ∧ j = 8) := by omega
  all_goals simp [bitValue, bitSamples, majority, List.getD, hi, hj]

theorem receive_falseStart {samples : List Bool} (h : bitValue samples 0 = true) : receive samples = .falseStart := if_pos h

/-! ## A stop bit of 0 (R122) -/

theorem readsHighFrom_isSome {samples : List Bool} : ∀ {fuel k : Nat}, (readsHighFrom samples fuel k).isSome = true ↔
    ∃ i, k ≤ i ∧ i < k + fuel ∧ samples.getD (i - 2) false = true ∧ samples.getD (i - 1) false = true ∧
      samples.getD i false = true := by
  intro fuel
  induction fuel with
  | zero =>
    intro k
    refine ⟨nofun, ?_⟩
    rintro ⟨i, h1, h2, -⟩
    omega
  | succ fuel ih =>
    intro k
    unfold readsHighFrom
    split
    · rename_i h
      simp only [Bool.and_eq_true] at h
      exact ⟨fun _ => ⟨k, Nat.le_refl k, by omega, h.1.1, h.1.2, h.2⟩, fun _ => rfl⟩
    · rename_i h
      rw [ih]
      constructor
      · rintro ⟨i, h1, h2, hi⟩
        exact ⟨i, by omega, by omega, hi⟩
      · rintro ⟨i, h1, h2, hi⟩
        have hne : i ≠ k := fun heq => h (by subst heq; simp only [hi.1, hi.2.1, hi.2.2, Bool.and_self])
        exact ⟨i, by omega, by omega, hi⟩

/-- What is received after a stop bit of 0. -/
theorem receive_of_stop_low {samples : List Bool} (h0 : bitValue samples 0 = false) (h10 : bitValue samples 10 = false) :
    receive samples = if (readsHighFrom samples 39 169).isSome then .framingError else .lineBreak := by
  unfold receive
  rw [if_neg (by simp [h0]), if_neg (by simp [h10])]
  change (match readsHighFrom samples 39 169 with | some _ => _ | none => _) = _
  cases readsHighFrom samples 39 169 <;> rfl

/-- The samples of a character whose stop bit reads 0, up to the ninth of the stop bit. -/
def stopLowSamples (d : Byte) (m : Bool) : List Bool := (samplesOf ((characterBits d m).take 10 ++ [false])).take 169

/-- A line that stays low for `n` samples behind such a character, and then reads high. -/
def brokenSamples (d : Byte) (m : Bool) (n : Nat) : List Bool :=
  samplesOf ((characterBits d m).take 10 ++ [false]) ++ List.replicate n false ++ List.replicate 3 true

section
variable (d : Byte) (m : Bool)

theorem stopLowSamples_length : (stopLowSamples d m).length = 169 := by simp [stopLowSamples]

theorem brokenSamples_eq (n : Nat) : brokenSamples d m n =
    stopLowSamples d m ++ (List.replicate (7 + n) false ++ List.replicate 3 true) := by
  have hsplit : samplesOf ((characterBits d m).take 10 ++ [false]) = stopLowSamples d m ++ List.replicate 7 false :=
    samplesOf_concat _ false
  rw [brokenSamples, hsplit, List.replicate_add, List.append_assoc, List.append_assoc, List.append_assoc]

theorem steady_stopLow : Steady (stopLowSamples d m) 0 false ∧ Steady (stopLowSamples d m) 10 false :=
  ⟨(steady_samplesOf rfl).take (by omega), (steady_samplesOf rfl).take (by omega)⟩

/-- The line from the stop bit of a broken character on: low for the stop bit and `n` samples, then high. -/
theorem brokenSamples_getD (n : Nat) {i : Nat} (hi : 160 ≤ i) :
    (brokenSamples d m n).getD i false = (decide (176 + n ≤ i) && decide (i < 179 + n)) := by
  have hlen : (samplesOf ((characterBits d m).take 10 ++ [false])).length = 176 := by simp
  rw [brokenSamples, List.append_assoc, List.getD]
  by_cases hstop : i < 176
  · have hbit := samplesOf_getElem? ((characterBits d m).take 10 ++ [false]) 10 (j := i - 160) (by omega)
    rw [show 16 * 10 + (i - 160) = i by omega] at hbit
    have hlow : ¬ 176 + n ≤ i := by omega
    rw [List.getElem?_append_left (by omega), hbit]
    simp [hlow]
  · rw [List.getElem?_append_right (by omega), hlen]
    by_cases hlow : i < 176 + n
    · have hnot : ¬ 176 + n ≤ i := by omega
      rw [List.getElem?_append_left (by simp; omega), List.getElem?_replicate_of_lt (by omega)]
      simp [hnot]
    · have hfrom : 176 + n ≤ i := by omega
      have hiff : i - 176 - n < 3 ↔ i < 179 + n := by omega
      rw [List.getElem?_append_right (by simp; omega), List.getElem?_replicate, List.length_replicate]
      simp only [hiff, hfrom, decide_true, Bool.true_and]
      by_cases hhigh : i < 179 + n <;> simp [hhigh]

theorem receive_brokenSamples (n : Nat) :
    receive (brokenSamples d m n) = if n ≤ 29 then .framingError else .lineBreak := by
  obtain ⟨hstart, hstop⟩ := steady_stopLow d m
  have hb := brokenSamples_eq d m n
  have hreads : (readsHighFrom (brokenSamples d m n) 39 169).isSome = true ↔ n ≤ 29 := by
    rw [readsHighFrom_isSome]
    constructor
    · rintro ⟨i, h1, h2, hi, -⟩
      rw [brokenSamples_getD d m n (by omega)] at hi
      simp only [Bool.and_eq_true, decide_eq_true_eq] at hi
      omega
    · intro hn
      have high (i : Nat) (h1 : 176 + n ≤ i) (h2 : i < 179 + n) : (brokenSamples d m n).getD i false = true := by
        rw [brokenSamples_getD d m n (by omega)]
        simp [h1, h2]
      exact ⟨178 + n, by omega, by omega, high _ (by omega) (by omega), high _ (by omega) (by omega),
        high _ (by omega) (by omega)⟩
  rw [receive_of_stop_low (hb ▸ (hstart.append _).bitValue) (hb ▸ (hstop.append _).bitValue)]
  simp only [hreads]

/-! ### Sample by sample -/

/-- From the ninth sample of a stop bit of 0 on: a line that reads high, one that does not yet, and the 208th sample. -/
theorem inCharacterOn_late {acc : List Bool} (hlen : 169 < acc.length) : Sampler.inCharacterOn acc =
    if acc.getD (acc.length - 3) false && acc.getD (acc.length - 2) false && acc.getD (acc.length - 1) true then
      (.watching (acc.getD (acc.length - 1) true), [.dockFramingError])
    else if acc.length < 208 then (.inCharacter acc, [])
    else (.inBreak (acc.getD (acc.length - 2) false) (acc.getD (acc.length - 1) true), [.lineBreak]) := by
  unfold Sampler.inCharacterOn
  rw [if_neg (by omega), if_neg (by omega), if_neg (by omega)]

/-- A broken character sample by sample, from the sample behind its stop bit's ninth on. -/
theorem inCharacterOn_broken (n : Nat) {l : Nat} (h169 : 169 < l) (hl : l ≤ 179 + n) :
    Sampler.inCharacterOn ((brokenSamples d m n).take l) =
      if l = 179 + n then (.watching true, [.dockFramingError])
      else if l < 208 then (.inCharacter ((brokenSamples d m n).take l), [])
      else (.inBreak (decide (178 + n ≤ l)) (decide (177 + n ≤ l)), [.lineBreak]) := by
  have hlen : ((brokenSamples d m n).take l).length = l := by
    rw [List.length_take, brokenSamples_eq]
    simp [stopLowSamples_length]
    omega
  have value (i : Nat) (h160 : 160 ≤ i) (hi : i < l) : ((brokenSamples d m n).take l).getD i false = decide (176 + n ≤ i) := by
    have hend : i < 179 + n := by omega
    have := brokenSamples_getD d m n h160
    rw [List.getD, List.getElem?_take_of_lt hi, ← List.getD, this]
    simp [hend]
  have hlast : ((brokenSamples d m n).take l).getD (l - 1) true = decide (176 + n ≤ l - 1) := by
    rw [← value (l - 1) (by omega) (by omega), List.getD, List.getD, List.getElem?_eq_getElem (by omega)]
    rfl
  rw [inCharacterOn_late (by omega), hlen, hlast, value (l - 3) (by omega) (by omega), value (l - 2) (by omega) (by omega)]
  by_cases hend : l = 179 + n
  · have h1 : 176 + n ≤ l - 1 := by omega
    have h2 : 176 + n ≤ l - 2 := by omega
    have h3 : 176 + n ≤ l - 3 := by omega
    rw [decide_eq_true h1, decide_eq_true h2, decide_eq_true h3, if_pos hend]
    rfl
  · have h3 : ¬ 176 + n ≤ l - 3 := by omega
    have h2 : 176 + n ≤ l - 2 ↔ 178 + n ≤ l := by omega
    have h1 : 176 + n ≤ l - 1 ↔ 177 + n ≤ l := by omega
    simp [hend, h3, h2, h1]

/-- A broken character up to its `l`th sample, judged there. -/
theorem sampleDockLine_broken (n : Nat) {l : Nat} (h169 : 169 < l) (hl : l ≤ 179 + n) (h208 : l ≤ 208) :
    sampleDockLine (.watching true) ((brokenSamples d m n).take l) =
      ((Sampler.inCharacterOn ((brokenSamples d m n).take l)).1,
        .startBitSeen :: (Sampler.inCharacterOn ((brokenSamples d m n).take l)).2) := by
  have hstop := stopLowSamples_length d m
  obtain ⟨rest, hrest⟩ : ∃ rest, brokenSamples d m n = stopLowSamples d m ++ rest := ⟨_, brokenSamples_eq d m n⟩
  have hlen : (brokenSamples d m n).length = 179 + n := by
    rw [brokenSamples_eq]
    simp [hstop]
    omega
  have hrestLen : rest.length = 10 + n := by
    have := congrArg List.length hrest
    simp only [hlen, List.length_append, hstop] at this
    omega
  have prefixOf (j : Nat) : (brokenSamples d m n).take (169 + j) = stopLowSamples d m ++ rest.take j := by
    rw [hrest, ← hstop, List.take_length_add_append]
  obtain ⟨hstart, hlow⟩ := steady_stopLow d m
  have hjudged : Sampler.inCharacterOn (stopLowSamples d m) = (.inCharacter (stopLowSamples d m), []) := by
    simp [Sampler.inCharacterOn, hstop, hlow.bitValue]
  have hstarted := sampleDockLine_character hstop rfl hstart
  rw [hjudged] at hstarted
  obtain ⟨j, rfl⟩ : ∃ j, l = 169 + j := ⟨l - 169, by omega⟩
  have htaken : (rest.take j).length = j := by simp; omega
  have hrun : sampleDockLine (.inCharacter (stopLowSamples d m)) (rest.take j) =
      Sampler.inCharacterOn (stopLowSamples d m ++ rest.take j) := by
    refine takeAll_collect (fun _ _ => rfl) _ _ (by rintro h; simp [h] at htaken; omega) fun i h0 hi => ?_
    rw [List.take_take, show min i j = i by omega, ← prefixOf, inCharacterOn_broken d m n (by omega) (by omega),
      if_neg (by omega), if_pos (by omega)]
  rw [prefixOf]
  unfold sampleDockLine at *
  rw [takeAll_append, hstarted]
  dsimp only
  rw [hrun]
  rfl

/-- What is left of a line that stayed low for 30 samples or more behind a stop bit of 0, from the 209th sample on. -/
theorem sampleDockLine_break (n : Nat) (hn : 30 ≤ n) :
    sampleDockLine (.inBreak (decide (178 + n ≤ 208)) (decide (177 + n ≤ 208))) ((brokenSamples d m n).drop 208) =
      (.watching true, [.breakEnd]) := by
  have hstop : (samplesOf ((characterBits d m).take 10 ++ [false])).length = 176 := by simp
  have hrest : (brokenSamples d m n).drop 208 = (List.replicate n false ++ List.replicate 3 true).drop 32 := by
    rw [brokenSamples, List.append_assoc, show 208 = (samplesOf ((characterBits d m).take 10 ++ [false])).length + 32 by simp,
      List.drop_length_add_append]
  rw [hrest]
  obtain rfl | rfl | ⟨p, rfl⟩ : n = 30 ∨ n = 31 ∨ ∃ p, n = p + 32 := by
    by_cases h : n ≤ 31
    · omega
    · exact .inr (.inr ⟨n - 32, by omega⟩)
  · decide
  · decide
  · have hlow : ∀ p, sampleDockLine (.inBreak false false) (List.replicate p false ++ List.replicate 3 true) =
        (.watching true, [.breakEnd]) := by
      intro p
      induction p with
      | zero => rfl
      | succ p ih =>
        have hstep : sampleDockLine (.inBreak false false) (List.replicate (p + 1) false ++ List.replicate 3 true) =
            ((sampleDockLine (.inBreak false false) (List.replicate p false ++ List.replicate 3 true)).1,
              (sampleDockLine (.inBreak false false) (List.replicate p false ++ List.replicate 3 true)).2) := rfl
        rw [hstep, ih]
    have hdrop : (List.replicate (p + 32) false ++ List.replicate 3 true).drop 32 =
        List.replicate p false ++ List.replicate 3 true := by
      rw [List.drop_append_of_le_length (by simp), List.drop_replicate, Nat.add_sub_cancel]
    have h1 : ¬ 178 + (p + 32) ≤ 208 := by omega
    have h2 : ¬ 177 + (p + 32) ≤ 208 := by omega
    rw [hdrop, decide_eq_false h1, decide_eq_false h2, hlow]

/-- Up to 29 low samples behind a stop bit of 0 are a framing error; the line stays low no longer than 13 bit times. -/
theorem sampleDockLine_framingError {n : Nat} (hn : n ≤ 29) :
    sampleDockLine (.watching true) (brokenSamples d m n) = (.watching true, [.startBitSeen, .dockFramingError]) := by
  have hall : (brokenSamples d m n).take (179 + n) = brokenSamples d m n := by
    refine List.take_of_length_le ?_
    rw [brokenSamples_eq]
    simp [stopLowSamples_length]
    omega
  have hrun := sampleDockLine_broken d m n (l := 179 + n) (by omega) (by omega) (by omega)
  rw [inCharacterOn_broken d m n (by omega) (by omega), if_pos rfl, hall] at hrun
  exact hrun

/-- From 30 low samples on they are a break, which ends when the line reads high. -/
theorem sampleDockLine_lineBreak {n : Nat} (hn : 30 ≤ n) :
    sampleDockLine (.watching true) (brokenSamples d m n) = (.watching true, [.startBitSeen, .lineBreak, .breakEnd]) := by
  have hrun := sampleDockLine_broken d m n (l := 208) (by omega) (by omega) (by omega)
  rw [inCharacterOn_broken d m n (by omega) (by omega), if_neg (by omega), if_neg (by omega)] at hrun
  have hbreak := sampleDockLine_break d m n hn
  rw [← List.take_append_drop 208 (brokenSamples d m n)]
  unfold sampleDockLine at *
  rw [takeAll_append, hrun]
  dsimp only
  rw [hbreak]
  rfl

end

/-- A line low for 208 samples and more is a break (R122). -/
theorem receive_low (n : Nat) : receive (List.replicate (208 + n) false) = .lineBreak := by
  have steady (k : Nat) (hk : k < 11) : Steady (List.replicate (208 + n) false) k false := fun j _ hj =>
    List.getElem?_replicate_of_lt (by omega)
  rw [receive_of_stop_low (steady 0 (by omega)).bitValue (steady 10 (by omega)).bitValue, if_neg]
  rw [readsHighFrom_isSome]
  rintro ⟨i, -, hi, -, -, hhigh⟩
  rw [List.getD, List.getElem?_replicate_of_lt (by omega)] at hhigh
  cases hhigh

/-! ## The wait for high line (R120, log 38) -/

theorem sampleDockLine_waiting (n : Nat) : ∀ k, k < 178 → sampleDockLine (.waitingHigh k) (List.replicate n true) =
    if k + n < 178 then (.waitingHigh (k + n), []) else (.watching true, [.highLineWaitEnd]) := by
  have hhigh : highWaitSamples = 178 := rfl
  induction n with
  | zero =>
    intro k hk
    rw [Nat.add_zero, if_pos hk]
    rfl
  | succ n ih =>
    intro k hk
    rw [List.replicate_succ]
    unfold sampleDockLine at *
    unfold takeAll
    by_cases hlast : k + 1 < 178
    · simp only [Sampler.take, hhigh, hlast, ih (k + 1) hlast, Bool.not_true, Bool.false_eq_true, if_false, if_true,
        List.nil_append, show k + (n + 1) = k + 1 + n by omega]
    · have hwatch := sampleDockLine_high n
      unfold sampleDockLine at hwatch
      simp only [Sampler.take, hhigh, hlast, hwatch, Bool.not_true, Bool.false_eq_true, if_false,
        show ¬ k + (n + 1) < 178 by omega, List.append_nil]

/-! ## Sample intervals (R119, log 42) -/

/-- How many of the first `n` numbers stand before `k` in the order of their ranks, ties by number. -/
def earlierCount (rank : Nat → Nat) (n k : Nat) : Nat :=
  (List.range n).countP fun j => decide (rank j < rank k) || (rank j == rank k && decide (j < k))

theorem earlierCount_eq_card (rank : Nat → Nat) (n k : Nat) :
    earlierCount rank n k = ((Finset.range n).filter fun j => toLex (rank j, j) < toLex (rank k, k)).card := by
  rw [← Nat.count_eq_card_filter_range, Nat.count, earlierCount]
  congr 1
  funext j
  simp [Prod.Lex.toLex_lt_toLex, Bool.beq_eq_decide_eq]

theorem earlierCount_lt {rank : Nat → Nat} {n j k : Nat} (hj : j < n) (h : toLex (rank j, j) < toLex (rank k, k)) :
    earlierCount rank n j < earlierCount rank n k := by
  rw [earlierCount_eq_card, earlierCount_eq_card]
  refine Finset.card_lt_card ((Finset.ssubset_iff_of_subset fun i hi => ?_).2 ⟨j, by simpa using ⟨hj, h⟩, by simp⟩)
  obtain ⟨hin, hlt⟩ := Finset.mem_filter.1 hi
  exact Finset.mem_filter.2 ⟨hin, hlt.trans h⟩

theorem earlierCount_injOn (rank : Nat → Nat) (n : Nat) : Set.InjOn (earlierCount rank n) (Finset.range n) := by
  intro j hj k hk heq
  simp only [Finset.coe_range, Set.mem_Iio] at hj hk
  obtain h | h | h := lt_trichotomy (toLex (rank j, j)) (toLex (rank k, k))
  · exact absurd (earlierCount_lt hj h) (by omega)
  · exact (Prod.ext_iff.1 (toLex_inj.1 h)).2
  · exact absurd (earlierCount_lt hk h) (by omega)

/-- In that order the first `n` numbers have the places 0 to `n - 1`. -/
theorem image_earlierCount (rank : Nat → Nat) (n : Nat) :
    (Finset.range n).image (earlierCount rank n) = Finset.range n := by
  refine Finset.eq_of_subset_of_card_le (fun i hi => ?_) (Finset.card_image_of_injOn (earlierCount_injOn rank n)).ge
  obtain ⟨k, hk, rfl⟩ := Finset.mem_image.1 hi
  rw [earlierCount_eq_card, Finset.mem_range]
  refine lt_of_lt_of_eq (Finset.card_lt_card ?_) (Finset.card_range n)
  exact (Finset.ssubset_iff_of_subset (Finset.filter_subset _ _)).2 ⟨k, hk, by simp⟩

/-- So `m` of them have a place before `m`. -/
theorem countP_earlierCount (rank : Nat → Nat) {n m : Nat} (hm : m ≤ n) :
    (List.range n).countP (fun k => decide (earlierCount rank n k < m)) = m := by
  have himage : ((Finset.range n).filter fun k => earlierCount rank n k < m).image (earlierCount rank n) = Finset.range m := by
    have := Finset.filter_image (s := Finset.range n) (f := earlierCount rank n) (p := (· < m))
    rw [← this, image_earlierCount]
    ext i
    simp only [Finset.mem_filter, Finset.mem_range]
    omega
  have hcard := Finset.card_image_of_injOn ((earlierCount_injOn rank n).mono
    (Finset.coe_subset.2 (Finset.filter_subset (fun k => earlierCount rank n k < m) _)))
  rw [himage, Finset.card_range, ← Nat.count_eq_card_filter_range] at hcard
  exact hcard.symm

/-- As many intervals are longer as the divisor has sixteenths. -/
theorem countP_longInterval (rate : BitVec 2) : (List.range 16).countP (longInterval rate) = bitPeriods rate % 16 :=
  countP_earlierCount (Config.intervalRank rate) (Nat.mod_lt _ (by omega)).le

theorem sum_map_add_toNat (p : Nat → Bool) (w : Nat) (l : List Nat) :
    (l.map fun k => w + (p k).toNat).sum = l.length * w + l.countP p ∧
      (l.map fun k => w + (p k).toNat).count (w + 1) = l.countP p := by
  induction l with
  | nil => simp
  | cons a l ih =>
    obtain ⟨hsum, hcount⟩ := ih
    cases h : p a
    · simp [h, hsum, hcount]
      ring
    · simp [h, hsum, hcount]
      ring

/-- The sixteen sample intervals of a bit time, at each rate strap. -/
theorem sampleIntervals (rate : BitVec 2) :
    ((List.range 16).map (sampleInterval rate)).sum = bitPeriods rate ∧
      ((List.range 16).map (sampleInterval rate)).count (bitPeriods rate / 16 + 1) = bitPeriods rate % 16 := by
  obtain ⟨hsum, hcount⟩ := sum_map_add_toNat (longInterval rate) (bitPeriods rate / 16) (List.range 16)
  rw [countP_longInterval] at hsum hcount
  refine ⟨hsum.trans ?_, hcount⟩
  rw [List.length_range]
  omega

/-- The samples of a bit time are over before the next begins. -/
theorem sampleIntervals_take (rate : BitVec 2) {j : Nat} (hj : j < 16) :
    ((List.range j).map (sampleInterval rate)).sum + sampleInterval rate 15 ≤ bitPeriods rate := by
  have hsum := (sampleIntervals rate).1
  rw [List.range_succ, show 15 = j + (15 - j) by omega, List.range_add, show j + (15 - j) = 15 by omega] at hsum
  simp only [List.map_append, List.sum_append, List.map_cons, List.map_nil, List.sum_cons, List.sum_nil] at hsum
  omega

/-- A line driven by a transmitter and sampled at its own rate yields 16 samples of each bit. -/
theorem sampleLine_levelAt (rate : BitVec 2) (bits : List Bool) {start : Nat} (hstart : start < sampleInterval rate 15) :
    sampleLine rate (levelAt (bitPeriods rate) bits) start (16 * bits.length) = samplesOf bits := by
  refine List.ext_getElem? fun i => ?_
  obtain ⟨k, j, hj, rfl⟩ : ∃ k j, j < 16 ∧ i = 16 * k + j := ⟨i / 16, i % 16, Nat.mod_lt _ (by omega), by omega⟩
  rw [samplesOf_getElem? _ _ hj, sampleLine, List.getElem?_map]
  by_cases hk : k < bits.length
  · have hin := sampleIntervals_take rate hj
    have hlt : 16 * k + j < 16 * bits.length := by omega
    rw [List.getElem?_range hlt, Option.map_some, sampleTime_bit rate k hj,
      show start + (k * bitPeriods rate + ((List.range j).map (sampleInterval rate)).sum) =
        bitPeriods rate * k + (start + ((List.range j).map (sampleInterval rate)).sum) by ring,
      levelAt_bit bits k (by omega), List.getD, List.getElem?_eq_getElem hk]
    rfl
  · rw [List.getElem?_eq_none (by simp; omega), List.getElem?_eq_none (by omega)]
    rfl

end Sys2Proof.Machine

open Sys2Proof Sys2Proof.Machine

/-- Settles O36, sample by sample, by the three samples of each bit time. -/
theorem characterReceived : Obligations.CharacterReceived := by
  unfold Obligations.CharacterReceived
  dsimp only
  refine ⟨fun d m => ⟨receive_of_steady fun k _ v hv => steady_character hv, sampleDockLine_characterBits d m⟩,
    fun d m k j hk h6 h8 => receive_one_inverted d m hk h6 h8, fun samples i j h6 hij h8 hi hj => ?_,
    fun d m n => ⟨fun hn => ⟨?_, sampleDockLine_framingError d m hn⟩, fun hn => ⟨?_, sampleDockLine_lineBreak d m hn⟩⟩,
    receive_low, fun n => ?_, fun n => rfl, fun last b => by cases last <;> cases b <;> rfl, by decide,
    fun rate => ⟨(sampleIntervals rate).1, fun x hx => ?_, (sampleIntervals rate).2⟩,
    fun rate bits start hstart => sampleLine_levelAt rate bits hstart⟩
  · have hfalse := receive_falseStart (bitValue_of_two h6 hij h8 hi hj)
    exact ⟨hfalse, by rw [hfalse]; rfl⟩
  · exact (receive_brokenSamples d m n).trans (if_pos hn)
  · exact (receive_brokenSamples d m n).trans (if_neg (by omega))
  · simpa using sampleDockLine_waiting n 0 (by omega)
  · obtain ⟨k, -, rfl⟩ := List.mem_map.1 hx
    exact sampleInterval_cases rate k
end

section
/-! Proofs about the lane port: its events, the samples of its characters, and the records they carry. -/

namespace Sys2Proof.Machine

/-! ## The lane port receiver in a character (R189, R190) -/

section
variable {xs : List Bool}

theorem portInCharacterOn_quiet {acc : List Bool} (h9 : acc.length = 9 → bitValue acc 0 = false) (hlt : acc.length < 153) :
    PortSampler.inCharacterOn acc = (.inCharacter acc, []) := by
  unfold PortSampler.inCharacterOn
  by_cases h : acc.length = 9
  · simp [h, h9 h]
  · simp [h, hlt]

/-- From a falling edge on the receiver collects samples to the ninth of the stop bit, where it judges them. -/
theorem sampleLanePort_collect (hlen : xs.length = 153) (hfirst : xs[0]? = some false) (hstart : Steady xs 0 false) :
    sampleLanePort (.watching true) xs = PortSampler.inCharacterOn xs := by
  obtain ⟨rest, rfl⟩ : ∃ rest, xs = false :: rest := by
    cases xs with
    | nil => cases hfirst
    | cons b rest => exact ⟨rest, by simpa using hfirst⟩
  have hrest : rest.length = 152 := by simpa using hlen
  have hrun : sampleLanePort (.inCharacter [false]) rest = PortSampler.inCharacterOn ([false] ++ rest) := by
    refine takeAll_collect (fun _ _ => rfl) rest [false] (by rintro rfl; cases hrest) fun n h0 hn => ?_
    have hlength : ([false] ++ rest.take n).length = n + 1 := by simp; omega
    refine portInCharacterOn_quiet (fun h9 => ?_) (by omega)
    obtain rfl : n = 8 := by omega
    exact (hstart.take (n := 9) (by omega)).bitValue
  simpa [sampleLanePort, takeAll, PortSampler.take] using hrun

/-- The nine samples to the middle of the last of ten bits, the first low, are judged by that last bit. -/
theorem sampleLanePort_bits {bits : List Bool} (hbits : bits.length = 9) (hfirst : bits[0]? = some false) (stop : Bool) :
    sampleLanePort (.watching true) (samplesOf (bits ++ [stop])) =
      ((sampleLanePort (.watching stop) (List.replicate 7 stop)).1,
        (if stop then
            [.requestCharacterReceived (byteOf (byteOfBits ((List.range 8).map fun k => bits.getD (k + 1) true)))]
          else [.lanePortFramingError]) ++ (sampleLanePort (.watching stop) (List.replicate 7 stop)).2) := by
  have hsplit := samplesOf_concat bits stop
  rw [hbits] at hsplit
  have hlen : ((samplesOf (bits ++ [stop])).take (16 * 9 + 9)).length = 153 := by simp [hbits]
  have steady {k : Nat} {v : Bool} (hk : k < 10) (hv : (bits ++ [stop])[k]? = some v) :
      Steady ((samplesOf (bits ++ [stop])).take (16 * 9 + 9)) k v := (steady_samplesOf hv).take (by omega)
  have hzero : (bits ++ [stop])[0]? = some false := by rw [List.getElem?_append_left (by omega), hfirst]
  have hstop : (bits ++ [stop])[9]? = some stop := by rw [List.getElem?_append_right (by omega), hbits]; rfl
  have hstarts : ((samplesOf (bits ++ [stop])).take (16 * 9 + 9))[0]? = some false := by
    rw [List.getElem?_take_of_lt (by omega)]
    exact (samplesOf_getElem? _ 0 (j := 0) (by omega)).trans hzero
  have hcollect := sampleLanePort_collect hlen hstarts (steady (by omega) hzero)
  have hlast : ((samplesOf (bits ++ [stop])).take (16 * 9 + 9)).getD 152 true = stop := by
    rw [List.getD, steady (by omega) hstop 8 (by omega) (by omega)]
    rfl
  have hdata : (List.range 8).map (fun k => bitValue ((samplesOf (bits ++ [stop])).take (16 * 9 + 9)) (k + 1)) =
      (List.range 8).map fun k => bits.getD (k + 1) true := by
    refine List.map_congr_left fun k hk => ?_
    have hlt : k + 1 < bits.length := by have := List.mem_range.1 hk; omega
    refine (steady (by omega) ?_).bitValue
    rw [List.getElem?_append_left hlt, List.getD, List.getElem?_eq_getElem hlt]
    rfl
  have hjudged : PortSampler.inCharacterOn ((samplesOf (bits ++ [stop])).take (16 * 9 + 9)) = (.watching stop,
      if stop then [.requestCharacterReceived (byteOf (byteOfBits ((List.range 8).map fun k => bits.getD (k + 1) true)))]
      else [.lanePortFramingError]) := by
    have h9 := (steady (by omega) hstop).bitValue
    unfold PortSampler.inCharacterOn
    rw [if_neg (by omega), if_neg (by omega), hlen, h9, hlast, hdata]
    cases stop <;> rfl
  rw [hsplit]
  unfold sampleLanePort at *
  rw [takeAll_append, hcollect, hjudged]

end

/-- The data of a character, read from its bits. -/
theorem byteOf_portCharacterBits (d : Byte) :
    byteOf (byteOfBits ((List.range 8).map fun k => (false :: (List.range 8).map d.getLsbD).getD (k + 1) true)) = d := by
  revert d
  decide

theorem sampleLanePort_characterBits (d : Byte) : sampleLanePort (.watching true) (samplesOf (portCharacterBits d)) =
    (.watching true, [.requestCharacterReceived d]) := by
  have h := sampleLanePort_bits (bits := false :: (List.range 8).map d.getLsbD) (by simp) rfl true
  rw [if_pos rfl, byteOf_portCharacterBits] at h
  exact h

/-- Characters sent back to back are received one after another. -/
theorem sampleLanePort_characters (chars : List Byte) :
    sampleLanePort (.watching true) (samplesOf (chars.flatMap portCharacterBits)) =
      (.watching true, chars.map .requestCharacterReceived) := by
  induction chars with
  | nil => rfl
  | cons d chars ih =>
    have hd := sampleLanePort_characterBits d
    rw [List.flatMap_cons, samplesOf_append]
    unfold sampleLanePort at *
    rw [takeAll_append, hd]
    dsimp only
    rw [ih]
    rfl

/-! ## The end of a complete record -/

variable {s : State}

theorem exec_requestComplete (hon : s.station.powerGood = true) {r : Request} {more : List Request}
    (hc : s.port.complete = r :: more) : exec .requestComplete s = .next
      (if s.port.buffer.length < 4 then
        { s with port := { s.port with complete := more, buffer := s.port.buffer ++ [r] } }
      else refresh (occur .portOverrun
        { condition := .portOverrun, source := .port, title := none, value := some r.kind.toNat, event := none }
        { s with port := { s.port with complete := more } })) := by
  have hexec : exec .requestComplete s = .next (requestComplete s) := congrArg Host.Outcome.next (powered_on hon)
  rw [hexec]
  unfold requestComplete
  rw [hc]
  rfl

/-! ## A record, character by character -/

theorem execAll_cons_next {c : Instr} {cs : List Instr} {t : State} (h : exec c s = .next t) :
    execAll (c :: cs) s = execAll cs t := by
  rw [execAll, h]

/-- The payload characters of a record complete it with the last of them. -/
theorem execAll_payload {kind len : Byte} : ∀ (payload stored : List Byte) (n : Nat) {s : State},
    s.station.powerGood = true → s.port.assembler = .assembling kind (some len) stored n → payload ≠ [] →
    n + payload.length = len.toNat →
    execAll (payload.map .requestCharacterReceived) s = .next { s with port := { s.port with
      assembler := .idle, gap := 0
      complete := s.port.complete ++
        [{ kind := kind, length := len, payload := if len.toNat ≤ 40 then stored ++ payload else stored }] } } := by
  intro payload
  induction payload with
  | nil => exact fun _ _ _ _ _ h => absurd rfl h
  | cons b payload ih =>
    intro stored n s hon ha _ hlen
    have hexec := exec_requestCharacterReceived hon b
    rw [ha, assembleRequest_payload] at hexec
    rw [List.map_cons, execAll_cons_next hexec]
    by_cases hnil : payload = []
    · subst hnil
      rw [if_pos (by simpa using hlen)]
      rfl
    · have hmore : n + 1 ≠ len.toNat := by
        have := List.length_pos_iff.2 hnil
        rw [List.length_cons] at hlen
        omega
      rw [if_neg hmore, ih _ (n + 1) (by exact hon) rfl hnil (by rw [List.length_cons] at hlen; omega)]
      by_cases hfits : len.toNat ≤ 40
      · simp only [hfits, if_true, List.append_assoc, List.singleton_append, Option.toList_none, List.append_nil]
      · simp only [hfits, if_false, Option.toList_none, List.append_nil]

/-- A record comes out of the request assembler as it was sent. -/
theorem execAll_record (hon : s.station.powerGood = true) (ha : s.port.assembler = .idle) (kind : Byte) {length : Byte}
    {payload : List Byte} (hlen : payload.length = length.toNat) :
    execAll ((kind :: length :: payload).map .requestCharacterReceived) s = .next { s with port := { s.port with
      gap := 0
      complete := s.port.complete ++
        [{ kind := kind, length := length, payload := if length.toNat ≤ 40 then payload else [] }] } } := by
  have hkind := exec_requestCharacterReceived hon kind
  rw [ha] at hkind
  rw [List.map_cons, List.map_cons, execAll_cons_next hkind]
  have hlength := exec_requestCharacterReceived (s := { s with port := { s.port with
    assembler := .assembling kind none [] 0, gap := 0, complete := s.port.complete ++ [] } }) hon length
  rw [assembleRequest_length] at hlength
  refine (execAll_cons_next hlength).trans ?_
  by_cases hzero : length = 0
  · subst hzero
    obtain rfl : payload = [] := List.eq_nil_of_length_eq_zero hlen
    simp [execAll, ← ha]
  · have hne : payload ≠ [] := by
      rintro rfl
      exact hzero (BitVec.eq_of_toNat_eq (by simpa using hlen.symm))
    rw [if_neg hzero]
    have hrest := execAll_payload payload [] 0 (s := { s with port := { s.port with
      assembler := .assembling kind (some length) [] 0, gap := 0, complete := s.port.complete ++ [] ++ [] } })
      (kind := kind) (len := length) hon rfl hne (by omega)
    refine hrest.trans ?_
    simp [← ha]

end Sys2Proof.Machine

open Sys2Proof Sys2Proof.Machine

/-- Settles O24, event by event. -/
theorem lanePortEvents : Obligations.LanePortEvents := by
  unfold Obligations.LanePortEvents
  intro s hon
  refine ⟨congrArg Host.Outcome.next (powered_on hon), congrArg Host.Outcome.next (powered_on hon), fun o more ho => ?_,
    fun r more hc => ?_, fun d last => ?_, fun n h1 h7 => ?_, fun o more i n b ho hb hn => ?_, portLevel_idle, rfl⟩
  · have hexec : exec .outputRecordSent s = .next (outputRecordSent s) := congrArg Host.Outcome.next (powered_on hon)
    rw [hexec, outputRecordSent, ho]
    rfl
  · rw [exec_requestComplete hon hc]
    exact ⟨fun h => by rw [if_pos h], fun h => by rw [if_neg (by omega)]⟩
  · have hbits := sampleLanePort_bits (bits := (portCharacterBits d).take 9) (by simp) rfl false
    unfold sampleLanePort at *
    rw [takeAll_append, hbits]
    cases last <;> rfl
  · interval_cases n <;> rfl
  · rw [portLevel_sending (s := { s with port := { s.port with outElapsed := 104 * i + n } }) hon ho]
    refine (levelAt_bit o.bits i hn).trans ?_
    rw [List.getD, hb]
    rfl

/-- Settles O23, by induction on the payload. -/
theorem requestRecordTransported : Obligations.RequestRecordTransported := by
  unfold Obligations.RequestRecordTransported
  intro s kind length payload hon ha hlen
  have hrecord := execAll_record hon ha kind hlen
  refine ⟨hrecord, ?_, ?_⟩
  · rw [sampleLanePort_characters]
    exact hrecord
  · have hbyte : byteOf payload.length = length := by
      rw [hlen]
      exact BitVec.ofNat_toNat _ _
    simp only [OutRecord.bits, OutRecord.bytes, hbyte]
end

section
/-! Proofs about the receiver: the line idle and busy, the frame assembler, the unconfirmed list, the frame check and the
receive slots. -/

namespace Sys2Proof.Machine

variable {s : State}

/-! ## Headers (R125) -/

theorem headerLane_eq (h : Byte) : headerLane h = BitVec.ofNat 5 (h.toNat % 32) := by
  revert h
  decide

theorem headerKind_eq (h : Byte) : headerKind h = BitVec.ofNat 3 (h.toNat / 32) := by
  revert h
  decide

/-- A valid header names one of the five kinds and a lane. -/
theorem validHeader_iff (h : Byte) : ((kindOfCode (headerKind h)).isSome && headerLane h != 0) = true ↔
    1 ≤ h.toNat / 32 ∧ h.toNat / 32 ≤ 5 ∧ h.toNat % 32 ≠ 0 := by
  revert h
  decide

theorem discardOf_eq (h : Byte) :
    discardOf h = { lane := BitVec.ofNat 5 (h.toNat % 32), kind := BitVec.ofNat 3 (h.toNat / 32) } := by
  rw [discardOf, headerLane_eq, headerKind_eq]

theorem charactersExpected_eq {h : Byte} {kind : FrameKind} (hk : kindOfCode (headerKind h) = some kind) :
    charactersExpected h = some (kind.payloadLength + 2) := by
  rw [charactersExpected, hk]
  rfl

/-! ## A listening station hears each report (R120 to R123) -/

theorem Listening.hears (h : Listening s) : receiverHears s = true := by
  obtain ⟨hon, hst, hidle | hin, -, -⟩ := h
  · simp [receiverHears, hon, hst, hidle]
  · simp [receiverHears, hon, hst, hin]

theorem Listening.silent (h : Listening s) : transmitting s = false := by
  obtain ⟨-, -, -, hsending, hjamming⟩ := h
  simp [transmitting, hsending, hjamming]

section
variable (h : Listening s)
include h

theorem exec_headerReceived (data : Byte) (noisy : Bool) :
    exec (.headerReceived data noisy) s = .next (refresh (takeHeader data noisy (lineIdle s))) := by
  refine congrArg Host.Outcome.next ?_
  simp only [headerReceived, h.hears, h.silent, if_true, Bool.false_eq_true, if_false]

theorem exec_payloadCharacterReceived (data : Byte) (noisy : Bool) :
    exec (.payloadCharacterReceived data noisy) s = .next (takePayload data noisy (lineIdle s)) := by
  refine congrArg Host.Outcome.next ?_
  simp only [payloadCharacterReceived, h.hears, h.silent, if_true, Bool.false_eq_true, if_false]

theorem exec_dockFramingError_muted (ha : s.line.assembler = .muted) :
    exec .dockFramingError s = .next (lineIdle s) := by
  refine congrArg Host.Outcome.next ?_
  simp only [dockFramingError, h.hears, h.silent, ha, if_true, Bool.false_eq_true, if_false]

theorem exec_dockFramingError_assembling {f : RawFrame} (ha : s.line.assembler = .assembling f) :
    exec .dockFramingError s =
      .next (refresh (placeDiscard (discardOf f.header) (setAssembler .muted (lineIdle s)))) := by
  refine congrArg Host.Outcome.next ?_
  simp only [dockFramingError, h.hears, h.silent, ha, if_true, Bool.false_eq_true, if_false]

theorem exec_lineBreak : exec .lineBreak s =
    .next { s with line := { s.line with receiver := .inBreak, idle := 0, assembler := .muted, discards := [] } } := by
  refine congrArg Host.Outcome.next ?_
  simp only [lineBreak, h.hears, h.silent, if_true, Bool.false_eq_true, if_false]
  rfl

end

/-! ## The assembler (R125, R126) -/

theorem takeHeader_valid {data : Byte} (hv : 1 ≤ data.toNat / 32 ∧ data.toNat / 32 ≤ 5 ∧ data.toNat % 32 ≠ 0)
    (noisy : Bool) (s : State) :
    takeHeader data noisy s = setAssembler (.assembling { header := data, chars := [], noisy := if noisy then 1 else 0 })
      (match s.line.assembler with
        | .assembling f => placeDiscard (discardOf f.header) s
        | .muted => s) := by
  unfold takeHeader
  rw [if_pos ((validHeader_iff data).2 hv)]
  cases noisy <;> rfl

theorem takeHeader_invalid {data : Byte} (hv : ¬ (1 ≤ data.toNat / 32 ∧ data.toNat / 32 ≤ 5 ∧ data.toNat % 32 ≠ 0))
    (noisy : Bool) (s : State) :
    takeHeader data noisy s = setAssembler .muted (placeDiscard (discardOf data)
      (match s.line.assembler with
        | .assembling f => placeDiscard (discardOf f.header) s
        | .muted => s)) := by
  unfold takeHeader
  exact if_neg fun h => hv ((validHeader_iff data).1 h)

/-- An unmarked character adds to the frame begun, until it is complete in form. -/
theorem takePayload_assembling {f : RawFrame} {kind : FrameKind} (ha : s.line.assembler = .assembling f)
    (hk : kindOfCode (headerKind f.header) = some kind) (data : Byte) (noisy : Bool) :
    takePayload data noisy s =
      if f.chars.length + 1 = kind.payloadLength + 2 then
        { s with line := { s.line with assembler := .muted, atCheck := s.line.atCheck ++
          [{ f with chars := f.chars ++ [data], noisy := f.noisy + if noisy then 1 else 0 }] } }
      else { s with line := { s.line with
        assembler := .assembling { f with chars := f.chars ++ [data], noisy := f.noisy + if noisy then 1 else 0 } } } := by
  have hnoisy : noisy.toNat = if noisy then 1 else 0 := by cases noisy <;> rfl
  unfold takePayload
  rw [ha]
  simp only [charactersExpected_eq hk, hnoisy, List.length_append, List.length_singleton, beq_iff_eq, Option.some.injEq]
  by_cases hlast : f.chars.length + 1 = kind.payloadLength + 2
  · rw [if_pos hlast.symm, if_pos hlast]
    rfl
  · rw [if_neg (fun h => hlast h.symm), if_neg hlast]
    rfl

/-! ## The unconfirmed list (R132, R135) -/

theorem advanceEpoch_eq (s : State) : advanceEpoch s = { s with tally :=
    { table := s.tally.table.map fun e => { e with certainty := .unsure }, epoch := s.tally.epoch + 1 } } := rfl

/-- What the confirmation of a discard leaves, in the words of R19, R132 and R135. -/
theorem confirmDiscard_eq (d : Discard) (s : State) : confirmDiscard d s =
    { occur .lineCheck
        { condition := .lineCheck, source := .line d.lane, title := none, value := some d.kind.toNat, event := none } s with
      tally := { table := s.tally.table.map fun e => { e with certainty := .unsure }, epoch := s.tally.epoch + 1 } } := by
  rw [confirmDiscard, advanceEpoch_eq, occur_tally]

theorem placeDiscard_room {d : Discard} (h : s.line.discards.length < 4) :
    placeDiscard d s = { s with line := { s.line with discards := s.line.discards ++ [d] } } := by
  rcases placeDiscard_cases d s with ⟨-, heq⟩ | ⟨oldest, rest, -, hfull, -⟩
  · exact heq
  · omega

theorem placeDiscard_full {d oldest : Discard} {more : List Discard} (hd : s.line.discards = oldest :: more)
    (h : 4 ≤ s.line.discards.length) :
    placeDiscard d s = confirmDiscard oldest { s with line := { s.line with discards := more ++ [d] } } := by
  rcases placeDiscard_cases d s with ⟨hroom, -⟩ | ⟨oldest', rest, hd', -, heq⟩
  · omega
  · obtain ⟨rfl, rfl⟩ := List.cons.inj (hd.symm.trans hd')
    exact heq

theorem discardRoom_room (h : s.line.discards.length < 4) : discardRoom s = s := by
  rcases discardRoom_cases s with ⟨heq, -⟩ | ⟨oldest, rest, -, hfull, -⟩
  · exact heq
  · omega

theorem discardRoom_full {oldest : Discard} {more : List Discard} (hd : s.line.discards = oldest :: more)
    (h : 4 ≤ s.line.discards.length) :
    discardRoom s = confirmDiscard oldest { s with line := { s.line with discards := more } } := by
  rcases discardRoom_cases s with ⟨-, hroom⟩ | ⟨oldest', rest, hd', -, heq⟩
  · omega
  · obtain ⟨rfl, rfl⟩ := List.cons.inj (hd.symm.trans hd')
    exact heq

/-! ## The frame check and the receive slots (R130, R131, R133) -/

theorem exec_peerFrameComplete {f : RawFrame} {more : List RawFrame} {kind : FrameKind} (hon : s.station.powerGood = true)
    (hst : s.station.state.receives = true) (hc : s.line.atCheck = f :: more)
    (hk : kindOfCode (headerKind f.header) = some kind) :
    exec .peerFrameComplete s = .next (refresh
      (if passesCheck f then storeFrame kind f { s with line := { s.line with atCheck := more } }
      else placeDiscard (discardOf f.header) { s with line := { s.line with atCheck := more } })) := by
  refine congrArg Host.Outcome.next ?_
  unfold peerFrameComplete
  rw [hc]
  simp only [hon, hst, hk, Bool.and_self, if_true]
  rfl

end Sys2Proof.Machine

open Sys2Proof Sys2Proof.Machine

/-- Settles O38, by the receiver state each report finds. -/
theorem lineBusyAndIdle : Obligations.LineBusyAndIdle := by
  unfold Obligations.LineBusyAndIdle
  intro s hon
  have hbreak : exec .breakEnd s = .next (breakEnd s) := congrArg Host.Outcome.next (powered_on hon)
  have hwait : exec .highLineWaitEnd s = .next (highLineWaitEnd s) := congrArg Host.Outcome.next (powered_on hon)
  have hstart : exec .startBitSeen s = .next (startBitSeen s) := congrArg Host.Outcome.next (powered_on hon)
  rw [hbreak, hwait, hstart]
  refine ⟨fun h => ?_, fun h => ?_, fun h => ?_, fun h => ?_, fun h => ?_, fun h => ?_⟩
  · rw [breakEnd, h]
    rfl
  · rw [highLineWaitEnd, h]
    rfl
  · rw [startBitSeen, h]
    rfl
  · rw [breakEnd, if_neg (by simpa using h)]
  · rw [highLineWaitEnd, if_neg (by simpa using h)]
  · rw [startBitSeen, if_neg (by simpa using h)]

/-- Settles O37, by the report and the state of the assembler. -/
theorem assemblerTakesCharacters : Obligations.AssemblerTakesCharacters := by
  unfold Obligations.AssemblerTakesCharacters
  intro s hl
  dsimp only
  simp only [← discardOf_eq]
  refine ⟨fun data noisy => ⟨fun hv => ?_, fun hv => ?_⟩, fun data noisy => ⟨fun ha => ?_, fun f kind ha hk => ?_⟩,
    fun ha => ?_, fun f ha => ?_, exec_lineBreak hl⟩
  · rw [exec_headerReceived hl, takeHeader_valid hv]
    rfl
  · rw [exec_headerReceived hl, takeHeader_invalid hv]
    rfl
  · rw [exec_payloadCharacterReceived hl, takePayload, show (lineIdle s).line.assembler = .muted from ha]
    rfl
  · rw [exec_payloadCharacterReceived hl, takePayload_assembling (s := lineIdle s) ha hk]
    exact ⟨fun hlast => by rw [if_neg hlast]; rfl, fun hlast => by rw [if_pos hlast]; rfl⟩
  · exact exec_dockFramingError_muted hl ha
  · exact exec_dockFramingError_assembling hl ha

/-- Settles O39, by the room on the unconfirmed list. -/
theorem discardsConfirmed : Obligations.DiscardsConfirmed := by
  unfold Obligations.DiscardsConfirmed
  intro s
  dsimp only
  refine ⟨fun d h => placeDiscard_room h, fun d oldest more hd h => ?_, fun hon hst hr hs hj => ?_⟩
  · rw [placeDiscard_full hd h, confirmDiscard_eq]
  · have hidle : idlePasses s = true := by simp [idlePasses, transmitting, hon, hst, hr, hs, hj]
    refine ⟨fun d more hd => ?_, fun f ha hroom => ?_, fun f oldest more ha hd hfull => ?_⟩
    · refine congrArg Host.Outcome.next ?_
      rw [discardConfirmed, hd]
      simp only [hidle, if_true]
      rw [confirmDiscard_eq]
      rfl
    · refine congrArg Host.Outcome.next ?_
      rw [truncation, ha]
      simp only [hidle, if_true]
      rw [discardRoom_room (s := setAssembler .muted s) hroom, confirmDiscard_eq, discardOf_eq]
      rfl
    · refine congrArg Host.Outcome.next ?_
      rw [truncation, ha]
      simp only [hidle, if_true]
      rw [discardRoom_full (s := setAssembler .muted s) hd hfull, confirmDiscard_eq, confirmDiscard_eq, discardOf_eq]
      rfl

/-- Settles O40, by the frame check and the two receive slots. -/
theorem frameCheckedAndStored : Obligations.FrameCheckedAndStored := by
  unfold Obligations.FrameCheckedAndStored
  intro s f more kind hon hst hc hk
  dsimp only
  rw [exec_peerFrameComplete hon hst hc hk]
  have hnoise : (1 ≤ f.noisy) = ¬ (f.noisy = 0) := propext Nat.one_le_iff_ne_zero
  refine ⟨fun hp => ?_, fun hp h1 => ?_, fun hp h1 h2 => ?_, fun hp h1 h2 => ?_⟩
  · rw [hp]
    rfl
  · rw [hp, if_pos rfl, storeFrame]
    simp only [h1, hnoise, ite_not]
    rfl
  · obtain ⟨held, h1⟩ := Option.ne_none_iff_exists'.1 h1
    rw [hp, if_pos rfl, storeFrame]
    simp only [h1, h2, hnoise, ite_not]
    rfl
  · obtain ⟨held, h1⟩ := Option.ne_none_iff_exists'.1 h1
    obtain ⟨held', h2⟩ := Option.ne_none_iff_exists'.1 h2
    rw [hp, if_pos rfl, storeFrame]
    simp only [h1, h2, advanceEpoch_eq, occur_tally]
    rfl
end

section
/-! Proofs about the transport of a frame: its characters and their samples at the receiver, and its payload read back. -/

namespace Sys2Proof.Machine

variable {s : State}

/-! ## A refresh after a refresh -/

theorem restUnit_restUnit (st : StationState) (a : LineAccess) : restUnit st (restUnit st a) = restUnit st a := by
  cases hu : a.unit with
  | sending => simp only [restUnit, hu]
  | jamming => simp only [restUnit, hu]
  | quiet => simp only [restUnit, hu]; split <;> simp_all
  | deferring => simp only [restUnit, hu]; split <;> simp_all

theorem refresh_refresh_line (l : Transceiver) (s : State) :
    refresh { refresh s with line := l } = refresh { s with line := l } := by
  have haccess : restUnit s.station.state (restUnit s.station.state s.access) = restUnit s.station.state s.access :=
    restUnit_restUnit _ _
  change refresh ((refresh s).setLine l) = refresh (s.setLine l)
  unfold refresh
  exact congrArg (((s.setLine l).setCond (s.cond.drive s.station)).setAccess ·) haccess

theorem Listening.refresh (h : Listening s) : Listening (refresh s) := by
  obtain ⟨hon, hst, hr, hsending, hjamming⟩ := h
  refine ⟨hon, hst, hr, ?_⟩
  change (restUnit s.station.state s.access).unit ≠ _ ∧ (restUnit s.station.state s.access).unit ≠ _
  unfold restUnit
  cases hu : s.access.unit with
  | sending => exact absurd hu hsending
  | jamming => exact absurd hu hjamming
  | quiet => dsimp only; split <;> exact ⟨nofun, nofun⟩
  | deferring => dsimp only; split <;> exact ⟨nofun, nofun⟩

theorem Listening.setLine (h : Listening s) {l : Transceiver} (hr : l.receiver = .idle ∨ l.receiver = .inCharacter) :
    Listening (s.setLine l) := by
  obtain ⟨hon, hst, -, hsending, hjamming⟩ := h
  exact ⟨hon, hst, hr, hsending, hjamming⟩

/-! ## The bytes of a frame (R118, R125, R130) -/

theorem headerByte_fields (kind : FrameKind) (lane : Lane) :
    kindOfCode (headerKind (headerByte kind lane)) = some kind ∧ headerLane (headerByte kind lane) = lane := by
  cases kind <;> revert lane <;> decide

theorem headerByte_valid (kind : FrameKind) {lane : Lane} (hl : lane ≠ 0) : 1 ≤ (headerByte kind lane).toNat / 32 ∧
    (headerByte kind lane).toNat / 32 ≤ 5 ∧ (headerByte kind lane).toNat % 32 ≠ 0 := by
  obtain ⟨hkind, hlane⟩ := headerByte_fields kind lane
  refine (validHeader_iff _).1 ?_
  rw [hkind, hlane]
  simpa using hl

/-- The payload and check characters of a frame. -/
def frameTail (kind : FrameKind) (lane : Lane) (payload : List Byte) : List Byte :=
  payload ++ checkCharacters (headerByte kind lane :: payload)

theorem frameBytes_eq (kind : FrameKind) (lane : Lane) (payload : List Byte) :
    frameBytes kind lane payload = headerByte kind lane :: frameTail kind lane payload := rfl

theorem frameTail_length (kind : FrameKind) (lane : Lane) (payload : List Byte) :
    (frameTail kind lane payload).length = payload.length + 2 := by
  simp [frameTail, checkCharacters]

/-- A frame that arrives as it was sent passes its check. -/
theorem passesCheck_frameTail (kind : FrameKind) (lane : Lane) (payload : List Byte) (noisy : Nat) :
    passesCheck { header := headerByte kind lane, chars := frameTail kind lane payload, noisy := noisy } = true := by
  have hlen : (headerByte kind lane :: frameTail kind lane payload).length - 2 =
      (headerByte kind lane :: payload).length := by
    simp [frameTail_length]
  have hall : headerByte kind lane :: frameTail kind lane payload =
      (headerByte kind lane :: payload) ++ checkCharacters (headerByte kind lane :: payload) := rfl
  simp only [passesCheck, hlen]
  rw [hall, List.drop_left, List.take_left]
  exact beq_self_eq_true _

/-- A frame without a noisy character takes the first receive slot where it is free. -/
theorem storeFrame_slot1 {f : RawFrame} (h1 : s.line.slot1 = none) (hf : f.noisy = 0) (kind : FrameKind) :
    storeFrame kind f s = { s with line := { s.line with
      nextOrder := s.line.nextOrder + 1
      slot1 := some { kind := kind, lane := headerLane f.header, payload := f.chars.take kind.payloadLength
                      order := s.line.nextOrder } } } := by
  unfold storeFrame
  simp only [h1, hf]
  rfl

/-! ## Character by character -/

/-- The payload and check characters of a frame complete it with the last of them. -/
theorem execAll_frameTail {kind : FrameKind} {head : Byte} (hk : kindOfCode (headerKind head) = some kind) :
    ∀ (rest chars : List Byte) (more : List Instr) {s : State}, Listening s →
      s.line.assembler = .assembling { header := head, chars := chars, noisy := 0 } → rest ≠ [] →
      chars.length + rest.length = kind.payloadLength + 2 →
      execAll (rest.map (Instr.payloadCharacterReceived · false) ++ more) s =
        execAll more (s.setLine { s.line with
          receiver := .idle, idle := 0, assembler := .muted
          atCheck := s.line.atCheck ++ [{ header := head, chars := chars ++ rest, noisy := 0 }] }) := by
  intro rest
  induction rest with
  | nil => exact fun _ _ _ _ _ h => absurd rfl h
  | cons d rest ih =>
    intro chars more s hl ha _ hlen
    rw [List.length_cons] at hlen
    have hexec := exec_payloadCharacterReceived hl d false
    rw [takePayload_assembling (s := lineIdle s) (kind := kind) ha hk] at hexec
    rw [List.map_cons, List.cons_append, execAll_cons_next hexec]
    by_cases hnil : rest = []
    · subst hnil
      rw [if_pos (by simpa using hlen)]
      rfl
    · have hmore : chars.length + 1 ≠ kind.payloadLength + 2 := by
        have := List.length_pos_iff.2 hnil
        omega
      rw [if_neg hmore]
      have hstill : Listening (s.setLine { s.line with
          receiver := .idle, idle := 0, assembler := .assembling { header := head, chars := chars ++ [d], noisy := 0 } }) :=
        hl.setLine (.inl rfl)
      refine (ih (chars ++ [d]) more hstill rfl hnil (by rw [List.length_append, List.length_singleton]; omega)).trans ?_
      rw [List.append_assoc]
      rfl

/-- A frame complete in form and correct takes the first receive slot where it is free. -/
theorem execAll_arrived {kind : FrameKind} {lane : Lane} {payload check : List Byte} {head : Byte}
    (hk : kindOfCode (headerKind head) = some kind) (hp : payload.length = kind.payloadLength) (hlane : headerLane head = lane)
    (hpass : passesCheck { header := head, chars := payload ++ check, noisy := 0 } = true)
    (hon : s.station.powerGood = true) (hst : s.station.state.receives = true)
    (hc : s.line.atCheck = [{ header := head, chars := payload ++ check, noisy := 0 }]) (h1 : s.line.slot1 = none) :
    execAll [.peerFrameComplete] s = .next (refresh { s with line := { s.line with
      atCheck := [], nextOrder := s.line.nextOrder + 1
      slot1 := some { kind := kind, lane := lane, payload := payload, order := s.line.nextOrder } } }) := by
  have hexec := exec_peerFrameComplete hon hst hc hk
  rw [if_pos hpass, storeFrame_slot1 (by exact h1) rfl] at hexec
  rw [← hp, List.take_left, hlane] at hexec
  exact execAll_cons_next hexec

/-- A frame received character by character ends whole in the first receive slot. -/
theorem execAll_frame (hl : Listening s) (ha : s.line.assembler = .muted) (hc : s.line.atCheck = [])
    (h1 : s.line.slot1 = none) (kind : FrameKind) {lane : Lane} (hlane : lane ≠ 0) {payload : List Byte}
    (hp : payload.length = kind.payloadLength) :
    execAll (.headerReceived (headerByte kind lane) false ::
        (frameTail kind lane payload).map (Instr.payloadCharacterReceived · false) ++ [.peerFrameComplete]) s =
      .next (refresh { s with line := { s.line with
        receiver := .idle, idle := 0, nextOrder := s.line.nextOrder + 1
        slot1 := some { kind := kind, lane := lane, payload := payload, order := s.line.nextOrder } } }) := by
  obtain ⟨hkind, hheader⟩ := headerByte_fields kind lane
  have hlen : ([] : List Byte).length + (frameTail kind lane payload).length = kind.payloadLength + 2 := by
    rw [frameTail_length, hp]
    simp
  have hne : frameTail kind lane payload ≠ [] := by
    intro hnil
    rw [hnil] at hlen
    simp at hlen
  have hhead := exec_headerReceived hl (headerByte kind lane) false
  rw [takeHeader_valid (headerByte_valid kind hlane), show (lineIdle s).line.assembler = .muted from ha] at hhead
  have hstarted : Listening (refresh (s.setLine { s.line with
      receiver := .idle, idle := 0
      assembler := .assembling { header := headerByte kind lane, chars := [], noisy := 0 } })) :=
    (hl.setLine (.inl rfl)).refresh
  rw [List.cons_append, execAll_cons_next hhead]
  refine (execAll_frameTail hkind (frameTail kind lane payload) [] _ hstarted rfl hne hlen).trans ?_
  refine (execAll_arrived hkind (payload := payload) hp hheader (passesCheck_frameTail kind lane payload 0)
    (by exact hl.1) (by exact hl.2.1) ?_ (by exact h1)).trans ?_
  · exact congrArg (· ++ _) hc
  · refine congrArg Host.Outcome.next ((refresh_refresh_line _ _).trans ?_)
    dsimp only [State.setLine]
    rw [ha, hc]
    rfl

/-! ## Sample by sample -/

/-- What the samples of a frame's characters report. -/
theorem sampleDockLine_sentBits (head : Byte) (tail : List Byte) :
    sampleDockLine (.watching true) (samplesOf (sentBits (head :: tail))) = (.watching true,
      .startBitSeen :: .headerReceived head false ::
        tail.flatMap fun d => [.startBitSeen, .payloadCharacterReceived d false]) := by
  have htail : ∀ tail : List Byte, sampleDockLine (.watching true) (samplesOf (tail.flatMap fun d => characterBits d false)) =
      (.watching true, tail.flatMap fun d => [.startBitSeen, .payloadCharacterReceived d false]) := by
    intro tail
    induction tail with
    | nil => rfl
    | cons d tail ih =>
      have hd := sampleDockLine_characterBits d false
      rw [List.flatMap_cons, samplesOf_append]
      unfold sampleDockLine at *
      rw [takeAll_append, hd]
      dsimp only
      rw [ih]
      rfl
  have hhead := sampleDockLine_characterBits head true
  have hrest := htail tail
  rw [sentBits, samplesOf_append]
  unfold sampleDockLine at *
  rw [takeAll_append, hhead]
  dsimp only
  rw [hrest]
  rfl

/-- A start bit leaves a listening station listening, to the line it then hears idle. -/
theorem exec_startBitSeen (hl : Listening s) : ∃ t, exec .startBitSeen s = .next t ∧ Listening t ∧ lineIdle t = lineIdle s := by
  have hexec : exec .startBitSeen s = .next (startBitSeen s) := congrArg Host.Outcome.next (powered_on hl.1)
  refine ⟨_, hexec, ?_, ?_⟩
  · unfold startBitSeen
    split
    · exact hl.setLine (.inr rfl)
    · exact hl
  · unfold startBitSeen
    split <;> rfl

theorem takePayload_listening (hl : Listening s) (d : Byte) (noisy : Bool) : Listening (takePayload d noisy (lineIdle s)) := by
  have hidle : Listening (lineIdle s) := hl.setLine (.inl rfl)
  unfold takePayload
  split
  · exact hidle
  · dsimp only
    split
    · exact hidle.setLine (.inl rfl)
    · exact hidle.setLine (.inl rfl)

/-- The start bits reported before the characters change nothing that the characters do. -/
theorem execAll_startBits (more : List Instr) : ∀ (tail : List Byte) {s : State}, Listening s →
    execAll ((tail.flatMap fun d => [.startBitSeen, .payloadCharacterReceived d false]) ++ more) s =
      execAll (tail.map (Instr.payloadCharacterReceived · false) ++ more) s := by
  intro tail
  induction tail with
  | nil => exact fun _ => rfl
  | cons d tail ih =>
    intro s hl
    obtain ⟨t, hstart, ht, hsame⟩ := exec_startBitSeen hl
    have hd := exec_payloadCharacterReceived ht d false
    rw [hsame] at hd
    have hlast := ih (takePayload_listening hl d false)
    rw [List.flatMap_cons, List.append_assoc, List.cons_append, execAll_cons_next hstart, List.cons_append,
      execAll_cons_next hd, List.nil_append, hlast, List.map_cons, List.cons_append,
      execAll_cons_next (exec_payloadCharacterReceived hl d false)]

end Sys2Proof.Machine

open Sys2Proof Sys2Proof.Machine

/-- Settles O41: the characters by induction on the payload and check characters, the samples through the characters. -/
theorem frameTransported : Obligations.FrameTransported := by
  unfold Obligations.FrameTransported
  intro s kind lane payload hl ha hc h1 hlane hp
  have hframe := execAll_frame hl ha hc h1 kind hlane hp
  refine ⟨headerByte kind lane, frameTail kind lane payload, frameBytes_eq kind lane payload,
    by rw [frameTail_length, hp], hframe, ?_⟩
  obtain ⟨t, hstart, ht, hsame⟩ := exec_startBitSeen hl
  have hhead := exec_headerReceived ht (headerByte kind lane) false
  rw [hsame, takeHeader_valid (headerByte_valid kind hlane), show (lineIdle s).line.assembler = .muted from ha] at hhead
  have hhead' := exec_headerReceived hl (headerByte kind lane) false
  rw [takeHeader_valid (headerByte_valid kind hlane), show (lineIdle s).line.assembler = .muted from ha] at hhead'
  rw [List.cons_append, execAll_cons_next hhead'] at hframe
  rw [frameBits, frameBytes_eq, sampleDockLine_sentBits, List.cons_append, execAll_cons_next hstart, List.cons_append,
    execAll_cons_next hhead]
  exact (execAll_startBits _ _ (Listening.refresh (hl.setLine (.inl rfl)))).trans hframe

end

section
/-! Proofs about the payloads of frames: what a station builds, read back. -/

namespace Sys2Proof.Machine

/-! ## Packed decimal (R196) -/

theorem packDigits_length : ∀ ds : List (BitVec 4), (packDigits ds).length = (ds.length + 1) / 2
  | [] => rfl
  | [_] => by simp [packDigits]
  | d :: e :: rest => by
    have := packDigits_length rest
    simp only [packDigits, List.length_cons, this]
    omega

theorem extract_append (d e : BitVec 4) :
    (d ++ e : BitVec 8).extractLsb' 4 4 = d ∧ (d ++ e : BitVec 8).extractLsb' 0 4 = e := by
  revert d e
  decide

/-- Digits packed and unpacked come back in order. -/
theorem unpackDigits_packDigits : ∀ (ds : List (BitVec 4)) (more : List Byte),
    (unpackDigits (packDigits ds ++ more)).take ds.length = ds
  | [], _ => rfl
  | [d], more => by
    obtain ⟨hd, -⟩ := extract_append d 15
    simp only [packDigits, unpackDigits, List.singleton_append, hd]
    rfl
  | d :: e :: rest, more => by
    obtain ⟨hd, he⟩ := extract_append d e
    have := unpackDigits_packDigits rest more
    simp [packDigits, unpackDigits, hd, he, this]

/-! ## Fields at a place of a payload -/

section
variable {pre : List Byte} {i : Nat}

theorem byteAt_append (hi : pre.length = i) (b : Byte) (more : List Byte) : byteAt (pre ++ b :: more) i = b := by
  subst hi
  simp [byteAt, List.getD]

theorem wordAt_append (hi : pre.length = i) (n : Nat) (more : List Byte) :
    wordAt (pre ++ (wordBytes n ++ more)) i = BitVec.ofNat 16 n := by
  have hlow : byteAt (pre ++ (wordBytes n ++ more)) i = byteOf n := byteAt_append hi (byteOf n) _
  have hhigh : byteAt (pre ++ (wordBytes n ++ more)) (i + 1) = byteOf (n / 256) := by
    have := byteAt_append (pre := pre ++ [byteOf n]) (i := i + 1) (by simp [hi]) (byteOf (n / 256)) more
    rwa [List.append_assoc] at this
  rw [wordAt, hlow, hhigh]
  refine BitVec.eq_of_toNat_eq ?_
  simp only [BitVec.toNat_append, byteOf, BitVec.toNat_ofNat]
  rw [Nat.shiftLeft_eq, Nat.mul_comm, ← Nat.two_pow_add_eq_or_of_lt (by omega)]
  omega

/-- A title key of 13 digits reads back. -/
theorem keyAt_append (hi : pre.length = i) {k : TitleKey} (hk : k.digits.length = 13) (more : List Byte) :
    keyAt (pre ++ (packKey k ++ more)) i = k := by
  have hpacked : (packDigits k.digits).length = 7 := by rw [packDigits_length, hk]
  have hdigits : (unpackDigits (((pre ++ (packKey k ++ more)).drop i).take 7)).take 13 = k.digits := by
    have := unpackDigits_packDigits k.digits []
    rw [List.append_nil, hk] at this
    rw [← hi, List.drop_left, packKey, List.append_assoc, ← hpacked, List.take_left, this]
  have hpart : wordAt (pre ++ (packKey k ++ more)) (i + 7) = k.part := by
    rw [packKey, List.append_assoc, ← List.append_assoc, wordAt_append (by simp [hpacked, hi])]
    simp
  rw [keyAt, hdigits, hpart]

end

theorem packKey_length {k : TitleKey} (hk : k.digits.length = 13) : (packKey k).length = 9 := by
  rw [packKey, List.length_append, packDigits_length, hk]
  rfl

theorem readCount_byteOf {n : Nat} (hn : n ≤ 63) : readCount (byteOf n) = n := by
  simp only [readCount, byteOf, BitVec.toNat_ofNat, Config.maxCount]
  omega

theorem readFrameMass_massBytes {mass : Option Nat} (hm : ∀ g, mass = some g → 1 ≤ g ∧ g ≤ 60000) :
    readFrameMass (BitVec.ofNat 16 (mass.getD 65535)) = mass := by
  cases mass with
  | none => rfl
  | some g =>
    obtain ⟨h1, h2⟩ := hm g rfl
    have hg : (BitVec.ofNat 16 g).toNat = g := by
      rw [BitVec.toNat_ofNat]
      omega
    simp [readFrameMass, hg, Config.maxMass, h1, h2]

/-- A title key, a count and a mass behind one byte, the layout of a CLAIM and of an ANSWER (11.5.1). -/
theorem keyCountMass_fields (first : Byte) {k : TitleKey} {n : Nat} {mass : Option Nat} (hk : k.digits.length = 13)
    (hn : n ≤ 63) (hm : ∀ g, mass = some g → 1 ≤ g ∧ g ≤ 60000) {p : List Byte}
    (hp : p = [first] ++ packKey k ++ [byteOf n] ++ massBytes mass) :
    byteAt p 0 = first ∧ keyAt p 1 = k ∧ readCount (byteAt p 10) = n ∧ readFrameMass (wordAt p 11) = mass := by
  have hkey := packKey_length hk
  refine ⟨by rw [hp]; rfl, ?_, ?_, ?_⟩
  · rw [hp, List.append_assoc, List.append_assoc]
    exact keyAt_append (pre := [first]) rfl hk _
  · have hbyte := byteAt_append (pre := [first] ++ packKey k) (i := 10) (by simp [hkey]) (byteOf n) (massBytes mass)
    rw [hp, List.append_assoc]
    exact (congrArg readCount hbyte).trans (readCount_byteOf hn)
  · rw [hp, ← List.append_nil (massBytes mass), massBytes, wordAt_append (by simp [hkey]), readFrameMass_massBytes hm]

end Sys2Proof.Machine

open Sys2Proof Sys2Proof.Machine

/-- Settles O42, field by field at its place in the payload. -/
theorem payloadsReadBack : Obligations.PayloadsReadBack := by
  unfold Obligations.PayloadsReadBack
  intro k seq other lane n mass hk hn hm
  have hkey := packKey_length hk
  refine ⟨?_, ?_, ?_, ?_,
    fun observer => ⟨rfl, by cases observer <;> rfl⟩, ?_, ?_, ?_, hkey⟩
  · obtain ⟨hseq, hk, hn, hm⟩ := keyCountMass_fields seq hk hn hm (p := claimPayload seq k n mass) rfl
    rw [readClaim, hseq, hk, hn, hm]
  · have hk := keyAt_append (pre := [seq, byteOf lane.toNat, other]) (i := 3) rfl hk [byteOf n]
    have hn : readCount (byteAt (correctionPayload seq lane other k n) 12) = n := by
      rw [correctionPayload, byteAt_append (by simp [hkey]), readCount_byteOf hn]
    rw [readCorrection, hn, correctionPayload, List.append_assoc, hk]
    rfl
  · obtain ⟨hlane, hk, hn, hm⟩ := keyCountMass_fields (byteOf lane.toNat) hk hn hm (p := answerPayload lane k n mass) rfl
    rw [readAnswer, hlane, hk, hn, hm]
  · have hread := keyAt_append (pre := []) rfl hk []
    rwa [List.nil_append, List.append_nil] at hread
  all_goals simp [claimPayload, correctionPayload, answerPayload, hkey, massBytes, wordBytes, FrameKind.payloadLength]
end

section
/-! Proofs about the hand-offs after an application, and about deadlines. -/

namespace Sys2Proof.Machine

variable {s : State}

/-! ## Entries, inquiries and items, in words -/

theorem LineAccess.removeEntry_eq (a : LineAccess) (o : Owner) :
    a.removeEntry o = { a with queue := a.queue.filter fun e => e.owner ≠ o } := by
  simp only [LineAccess.removeEntry, bne, ne_eq, decide_not, Bool.beq_eq_decide_eq]

theorem LineAccess.changeEntries_eq (a : LineAccess) (o : Owner) (f : TxEntry → TxEntry) :
    a.changeEntries o f = { a with queue := a.queue.map fun e => if e.owner = o then f e else e } := by
  simp only [LineAccess.changeEntries, beq_iff_eq]

theorem InquiryUnit.change_eq (u : InquiryUnit) (k : TitleKey) (f : Inquiry → Inquiry) :
    u.change k f = { u with inquiries := u.inquiries.map fun q => if q.key = k then f q else q } := by
  simp only [InquiryUnit.change, beq_iff_eq]

theorem InquiryUnit.remove_eq (u : InquiryUnit) (k : TitleKey) :
    u.remove k = { u with inquiries := u.inquiries.filter fun q => q.key ≠ k } := by
  simp only [InquiryUnit.remove, bne, ne_eq, decide_not, Bool.beq_eq_decide_eq]

theorem Arrival.change_eq (a : Arrival) (tag : Byte) (f : Item → Item) :
    a.change tag f = { a with items := a.items.map fun it => if it.tag = tag then f it else it } := by
  simp only [Arrival.change, beq_iff_eq]

theorem Arrival.find_tag {a : Arrival} {tag : Byte} {it : Item} (h : a.find tag = some it) : it.tag = tag := by
  simpa using List.find?_some h

theorem InquiryUnit.find_key {u : InquiryUnit} {k : TitleKey} {q : Inquiry} (h : u.find k = some q) : q.key = k := by
  simpa using List.find?_some h

/-! ## The events of an application (R15, R155, R157) -/

theorem mem_tallyEvents {full old new : Nat} {isClaim : Bool} :
    (.counted ∈ tallyEvents full old new isClaim ↔ isClaim = true) ∧
      (.completed ∈ tallyEvents full old new isClaim ↔ old < full ∧ full ≤ new) ∧
      (.surplus ∈ tallyEvents full old new isClaim ↔ isClaim = true ∧ full < new) ∧
      .presented ∉ tallyEvents full old new isClaim := by
  have ite_mem {p : Prop} [Decidable p] (x y : WatchEvent) : (x ∈ if p then [y] else []) ↔ p ∧ x = y := by
    by_cases hp : p <;> simp [hp]
  simp [tallyEvents, ite_mem]

/-- In the order COUNTED, COMPLETED, SURPLUS. -/
theorem tallyEvents_pairwise (full old new : Nat) (isClaim : Bool) :
    (tallyEvents full old new isClaim).Pairwise fun a b => a.index < b.index := by
  have hall : ([.counted, .completed, .surplus] : List WatchEvent).Pairwise fun a b => a.index < b.index := by decide
  have part (p : Prop) [Decidable p] (x : WatchEvent) : (if p then [x] else []).Sublist [x] := by
    by_cases hp : p <;> simp [hp]
  exact hall.sublist (((part _ .counted).append (part _ .completed)).append (part _ .surplus))

theorem scanLineEvent_none {k : TitleKey} {e : WatchEvent} (h : scanFrom k e s.watch 0 = none) (lane : Lane) :
    scanLineEvent k lane s e = s := by
  rw [scanLineEvent, h]

theorem scanLineEvent_some {k : TitleKey} {e : WatchEvent} {i : Nat} (h : scanFrom k e s.watch 0 = some i) (lane : Lane) :
    scanLineEvent k lane s e = occur .watchMatch
      { condition := .watchMatch, source := .line lane
        title := some { chars := k.digits.map charOfDigit, part := k.part }, value := some i, event := some e }
      { s with watch := addHit s.watch i } := by
  rw [scanLineEvent, h]
  rfl

/-! ## The roster judgement (R64, R65) -/

theorem next_sequence_iff (a b : Byte) : a = b + 1 ↔ a.toNat = (b.toNat + 1) % 256 := by
  rw [← BitVec.toNat_inj, BitVec.toNat_add]
  rfl

theorem rosterCheck_eq (kind : FrameKind) (lane : Lane) (seq : Byte) (k : TitleKey) (s : State) :
    rosterCheck kind lane seq k s =
      let held := s.claim.roster.getD (lane.toNat - 1) {}
      let noted : State := s.setClaim (s.claim.setRecord lane
        { present := true, lastSeq := seq, role := if kind = .claim then .lane else held.role })
      if held.present = true ∧ seq.toNat ≠ (held.lastSeq.toNat + 1) % 256 then
        advanceEpoch (occur .tallyGap
          { condition := .tallyGap, source := .line lane, title := some (portKey k), value := some kind.code } noted)
      else noted := by
  simp only [rosterCheck, Bool.and_eq_true, bne_iff_ne, beq_iff_eq, ne_eq, next_sequence_iff]

/-! ## Deadlines (R44 to R48) -/

theorem lowerDeadline_eq (it : Item) :
    lowerDeadline it = if it.stage ≠ .decided ∧ 0 < it.deadline then { it with deadline := it.deadline - 1 } else it := by
  unfold lowerDeadline Item.undecided
  by_cases hd : it.stage = .decided
  · simp [hd]
  · by_cases h0 : 0 < it.deadline
    · simp [hd, h0]
    · have hzero : it.deadline = 0 := by omega
      simp [hd, hzero]
      rw [← hzero]

/-- A deadline that stands at 0 acts where the station transmits. -/
theorem exec_deadlineExpiry {tag : Byte} {it : Item} (hon : s.station.powerGood = true) (hst : s.station.state.transmits = true)
    (hf : s.arrival.find tag = some it) (hd : it.deadline = 0) (hu : it.stage ≠ .decided) :
    exec (.deadlineExpiry tag) s = .next (refresh (expireDeadline it s)) := by
  have hexec : exec (.deadlineExpiry tag) s = .next (deadlineExpiry tag s) := congrArg Host.Outcome.next (powered_on hon)
  have hundecided : it.undecided = true := by simpa [Item.undecided] using hu
  rw [hexec, deadlineExpiry, hf]
  simp [hst, hundecided, hd]

/-- An item leaves an inquiry others still wait for (R85). -/
theorem leaveInquiry_others {tag next : Byte} {others : List Byte} {k : TitleKey} {q : Inquiry}
    (hf : s.inquiry.find k = some q) (hw : q.waiting.filter (· ≠ tag) = next :: others) :
    leaveInquiry tag k s = { s with
      inquiry := { s.inquiry with inquiries := s.inquiry.inquiries.map fun x =>
        if x.key = k then { x with waiting := next :: others } else x }
      access := { s.access with
        queue := s.access.queue.map fun e =>
          if e.owner = .inquiry k then { e with place := ((s.arrival.find next).map Item.accepted).getD 0 } else e } } := by
  have hw' : (q.waiting.filter fun t => t != tag) = next :: others := by
    simpa only [bne, ne_eq, decide_not, Bool.beq_eq_decide_eq] using hw
  rw [leaveInquiry, hf]
  simp only [hw', InquiryUnit.change_eq, LineAccess.changeEntries_eq]
  rfl

/-- The last item to leave an inquiry closes it (R91). -/
theorem leaveInquiry_last {tag : Byte} {k : TitleKey} {q : Inquiry}
    (hf : s.inquiry.find k = some q) (hw : q.waiting.filter (· ≠ tag) = []) : leaveInquiry tag k s = closeInquiry q s := by
  have hw' : (q.waiting.filter fun t => t != tag) = [] := by
    simpa only [bne, ne_eq, decide_not, Bool.beq_eq_decide_eq] using hw
  rw [leaveInquiry, hf]
  simp only [hw']

/-- What the closing of an inquiry leaves of the transmit queue: its INQUIRY is withdrawn if queued, and left to run
without retry if in flight (R91). -/
def closedQueue (stage : InquiryStage) (k : TitleKey) (queue : List TxEntry) : List TxEntry :=
  match stage with
  | .queued => queue.filter fun e => e.owner ≠ .inquiry k
  | .sending => queue.map fun e => if e.owner = .inquiry k then { e with owner := .closedInquiry, noRetry := true } else e
  | .window => queue

theorem closeInquiry_eq (q : Inquiry) (s : State) : closeInquiry q s = { s with
    inquiry := { s.inquiry with inquiries := s.inquiry.inquiries.filter fun x => x.key ≠ q.key }
    access := { s.access with queue := closedQueue q.stage q.key s.access.queue } } := by
  unfold closeInquiry closedQueue
  cases q.stage <;>
    simp only [InquiryUnit.remove_eq, LineAccess.removeEntry_eq, LineAccess.changeEntries_eq] <;> rfl

end Sys2Proof.Machine

open Sys2Proof Sys2Proof.Machine

/-- Settles O43, hand-off by hand-off. -/
theorem frameHandOffs : Obligations.FrameHandOffs := by
  unfold Obligations.FrameHandOffs
  intro s k lane seq
  dsimp only
  refine ⟨fun isClaim old new => ⟨tallyEvents (s.rules.fullOfKey k) old new isClaim, rfl, tallyEvents_pairwise _ _ _ _,
      mem_tallyEvents⟩, fun e => ⟨fun h => scanLineEvent_none h lane, fun i h => scanLineEvent_some h lane⟩,
    fun kind _ => ⟨fun h => ?_, fun hp hseq => ?_⟩, fun n => ⟨fun h => ?_, fun h => ?_⟩⟩
  · rw [rosterCheck_eq]
    refine if_neg fun ⟨hp, hseq⟩ => ?_
    rcases h with h | h
    · rw [h] at hp
      cases hp
    · exact hseq h
  · rw [rosterCheck_eq]
    refine (if_pos ⟨hp, hseq⟩).trans ?_
    rw [advanceEpoch_eq, occur_tally]
    rfl
  · exact if_pos h
  · exact if_neg (Nat.not_lt.2 h)

/-- Settles O28, by the stage of the item. -/
theorem deadlinesRunAndExpire : Obligations.DeadlinesRunAndExpire := by
  unfold Obligations.DeadlinesRunAndExpire
  refine ⟨fun s b hon => ?_, fun s tag it hon hst hf hd => ?_⟩
  · have hexec : exec (.dwellClockTick b) s = .next (dwellClockTick b s) := congrArg Host.Outcome.next (powered_on hon)
    rw [hexec, dwellClockTick]
    simp only [Bool.and_eq_true, bne_iff_ne, funext lowerDeadline_eq]
    rfl
  · obtain rfl := Arrival.find_tag hf
    dsimp only
    have expires (stage : Stage) (hs : it.stage = stage) (hu : stage ≠ .decided) :=
      exec_deadlineExpiry hon hst hf hd (hs ▸ hu)
    refine ⟨fun hs => ?_, fun hs => ?_, fun hs => ?_, fun hs => ?_⟩
    · rw [expires _ hs nofun, expireDeadline, hs]
      refine ⟨fun hnone => ?_, fun q hq => ⟨fun next others hw => ?_, fun hw => ?_⟩⟩
      · simp only [leaveInquiry, hnone]
      · simp only [leaveInquiry_others hq hw]
      · dsimp only
        rw [leaveInquiry_last hq hw, closeInquiry_eq, InquiryUnit.find_key hq]
        rfl
    · rw [expires _ hs nofun, expireDeadline, hs]
      simp only [LineAccess.removeEntry_eq]
      rfl
    · rw [expires _ hs nofun, expireDeadline, hs]
      simp only [LineAccess.changeEntries_eq, ite_and]
      rfl
    · rw [expires _ hs nofun, expireDeadline, hs]
end

section
/-! Proofs about PRESENT. -/

namespace Sys2Proof.Machine

variable {s : State} {x : Item}

/-! ## A record at the tail under a fresh tag (R27, R29) -/

section
variable (hfresh : ∀ y ∈ s.arrival.items, y.tag ≠ x.tag)
include hfresh

theorem find_appendItem : (appendItem x s).arrival.find x.tag = some x := by
  refine List.find?_eq_some_iff_append.2 ⟨beq_self_eq_true _, s.arrival.items, [], rfl, fun y hy => ?_⟩
  simpa using hfresh y hy

theorem changeItem_appendItem (f : Item → Item) : changeItem x.tag f (appendItem x s) = appendItem (f x) s := by
  have hitems : (s.arrival.items ++ [x]).map (fun y => if y.tag == x.tag then f y else y) = s.arrival.items ++ [f x] := by
    rw [List.map_append, List.map_singleton, if_pos (beq_self_eq_true _)]
    congr 1
    refine (List.map_congr_left fun y hy => ?_).trans (List.map_id _)
    exact if_neg (by simpa using hfresh y hy)
  simp only [changeItem, Arrival.change, appendItem, State.setArrival, hitems]

/-- An unpinned record decided as it stands at the tail. -/
theorem decideItem_appendItem (hu : x.stage ≠ .decided) (hp : x.pinned = false) (d : Disposition) (reason : HoldReason) :
    decideItem x.tag d reason (appendItem x s) =
      occurAll (itemConditions (x.decidedAs d reason)) (appendItem (x.decidedAs d reason) s) := by
  have hchange := changeItem_appendItem hfresh fun y => y.decidedAs d reason
  rw [decideItem_undecided (find_appendItem hfresh) hu]
  congr 1
  rw [← hchange, State.decidedRecord, hp]
  rfl

/-- A record that enters QUEUED at the tail (R35, R139). -/
theorem queueClaim_appendItem : queueClaim x.tag (appendItem x s) =
    appendItem { x with stage := .queued }
      (s.setAccess { s.access with queue := s.access.queue ++ [{ owner := .claim x.tag, place := x.accepted }] }) := by
  have hplace : placeOf x.tag (appendItem { x with stage := .queued } s) = x.accepted := by
    have := find_appendItem (x := { x with stage := .queued }) (s := s) hfresh
    rw [placeOf, this]
    rfl
  rw [queueClaim, changeItem_appendItem hfresh, hplace]
  rfl

/-- A record at the tail joins the inquiry pending for its title, or opens one (R34, R84, R85). -/
theorem joinInquiry_appendItem (k : TitleKey) : joinInquiry x.tag k (appendItem x s) =
    if (s.inquiry.inquiries.any fun q => q.key = k) then
      appendItem x (s.setInquiry { s.inquiry with inquiries := s.inquiry.inquiries.map fun q =>
        if q.key = k then { q with waiting := q.waiting ++ [x.tag] } else q })
    else appendItem x
      ((s.setInquiry { s.inquiry with inquiries := s.inquiry.inquiries ++ [{ key := k, waiting := [x.tag] }] }).setAccess
        { s.access with queue := s.access.queue ++ [{ owner := .inquiry k, place := x.accepted }] }) := by
  have hplace : placeOf x.tag (appendItem x s) = x.accepted := by
    rw [placeOf, find_appendItem hfresh]
    rfl
  unfold joinInquiry
  rw [show (appendItem x s).inquiry = s.inquiry from rfl]
  cases hf : s.inquiry.find k with
  | some q =>
    have hany : (s.inquiry.inquiries.any fun q => q.key = k) = true :=
      List.any_eq_true.2 ⟨q, List.mem_of_find?_eq_some hf, by simpa using InquiryUnit.find_key hf⟩
    rw [if_pos hany]
    simp only [InquiryUnit.change_eq]
    rfl
  | none =>
    have hnone : ¬ (s.inquiry.inquiries.any fun q => q.key = k) = true := by
      simpa [InquiryUnit.find] using hf
    rw [if_neg hnone, hplace]
    rfl

end

/-! ## The request (R28 to R32) -/

/-- The request record of a PRESENT. -/
def presentRequest (chars : List Byte) (p0 p1 m0 m1 : Byte) : Request :=
  { kind := 1, length := 17, payload := chars ++ [p0, p1, m0, m1] }

section
variable {chars : List Byte} {p0 p1 m0 m1 : Byte}

/-- The record a PRESENT creates, its fields read. -/
theorem newItem_presentRequest (hlen : chars.length = 13) : newItem (presentRequest chars p0 p1 m0 m1) s =
    { tag := s.arrival.nextTag, chars := chars, part := p1 ++ p0, mass := massIntake (m1 ++ m0)
      cls := s.rules.classOfChars chars, deadline := s.rules.dwell, accepted := s.arrival.accepted } := by
  have hchars : (chars ++ [p0, p1, m0, m1]).take 13 = chars := by rw [← hlen, List.take_left]
  have hat (i : Nat) (b : Byte) (hb : [p0, p1, m0, m1][i]? = some b) : byteAt (chars ++ [p0, p1, m0, m1]) (13 + i) = b := by
    rw [byteAt, List.getD, ← hlen, List.getElem?_append_right (by omega), Nat.add_sub_cancel_left, hb]
    rfl
  have hpart : wordAt (chars ++ [p0, p1, m0, m1]) 13 = p1 ++ p0 := by
    rw [wordAt, hat 1 p1 rfl, hat 0 p0 rfl]
  have hmass : wordAt (chars ++ [p0, p1, m0, m1]) 15 = m1 ++ m0 := by
    rw [wordAt, hat 3 m1 rfl, hat 2 m0 rfl]
  simp only [newItem, presentRequest, hchars, hpart, hmass]

theorem presentRequest_formOk (chars : List Byte) (p0 p1 m0 m1 : Byte) :
    (presentRequest chars p0 p1 m0 m1).formOk = true :=
  (formOk_iff_of_lengthOnly (row := .present) (n := 17) rfl rfl rfl).2 (not_not.2 rfl)

variable {rest : List Request} (h : Serving s (presentRequest chars p0 p1 m0 m1) rest)
include h

theorem exec_present_run (hrun : s.station.state = .run) : exec .present s = .next
    (if s.station.observer then s.replied rest [1, 6]
    else if 8 ≤ s.arrival.items.length then s.replied rest [1, 4]
    else refresh (acceptItem (presentRequest chars p0 p1 m0 m1) s)) := by
  have hreply (res : ResultCode) := answerRequest_eq (res := res) (bs := []) (buffer_of_serving h)
  refine congrArg Host.Outcome.next ((serve_taken (row := .present) h rfl (presentRequest_formOk ..) (by simp [hrun])).trans ?_)
  simp only [hreply]
  rfl

theorem exec_present_elsewhere (hrun : s.station.state ≠ .run) : exec .present s = .next (s.replied rest [1, 3]) :=
  congrArg Host.Outcome.next
    (serve_refusedState_replied (row := .present) h rfl (presentRequest_formOk ..) (by simpa using hrun))

end

/-! ## The PRESENTED scan (R33) -/

/-- The hit of a scan's winner. -/
def hitBy (found : Option Nat) (watch : List WatchEntry) : List WatchEntry :=
  match found with
  | some i => addHit watch i
  | none => watch

theorem presentedScan_appendItem (hfresh : ∀ y ∈ s.arrival.items, y.tag ≠ x.tag) (hw : x.watchMatch = none) {k : TitleKey}
    {found : Option Nat} (hfound : scanFrom k .presented s.watch 0 = found) :
    presentedScan x.tag k (appendItem x s) =
      (appendItem { x with watchMatch := found } (s.setWatch (hitBy found s.watch)),
        ((found.bind fun i => s.watch[i]?).map WatchEntry.divert).getD false) := by
  unfold presentedScan
  rw [show (appendItem x s).watch = s.watch from rfl, hfound]
  cases found with
  | none =>
    have hsame : { x with watchMatch := none } = x := by rw [← hw]
    rw [hsame]
    rfl
  | some i =>
    have hchange := changeItem_appendItem (s := s.setWatch (addHit s.watch i)) hfresh fun y => { y with watchMatch := some i }
    refine Prod.ext hchange ?_
    change (s.watch.getD i {}).divert = ((s.watch[i]?).map WatchEntry.divert).getD false
    rw [List.getD]
    cases s.watch[i]? <;> rfl

/-! ## The lookup (R34) -/

theorem lookupItem_error {k bad : TitleKey} (h : lookup s.rules s.tally.table k = .error bad) (tag : Byte)
    (reply : State → State) : lookupItem tag k reply s = memoryFault bad (reply s) := by
  rw [lookupItem, h]

theorem lookupItem_certain (hfresh : ∀ y ∈ s.arrival.items, y.tag ≠ x.tag) {k : TitleKey} {table : List Entry}
    (h : lookup s.rules s.tally.table k = .ok (table, some .certain)) (reply : State → State) :
    lookupItem x.tag k reply (appendItem x s) = reply (appendItem { x with pinned := true, stage := .queued }
      ((s.setTally { s.tally with table := table }).setAccess
        { s.access with queue := s.access.queue ++ [{ owner := .claim x.tag, place := x.accepted }] })) := by
  have hpinned := changeItem_appendItem (s := s.setTally { s.tally with table := table }) hfresh
    fun y => { y with pinned := true }
  have hqueued := queueClaim_appendItem (s := s.setTally { s.tally with table := table })
    (x := { x with pinned := true }) hfresh
  unfold lookupItem
  rw [show (appendItem x s).tally = s.tally from rfl, show (appendItem x s).rules = s.rules from rfl, h]
  refine congrArg reply (Eq.trans ?_ hqueued)
  exact congrArg (queueClaim x.tag) hpinned

theorem lookupItem_inquiring (hfresh : ∀ y ∈ s.arrival.items, y.tag ≠ x.tag) {k : TitleKey} {table : List Entry}
    {found : Option Certainty} (hne : found ≠ some .certain)
    (h : lookup s.rules s.tally.table k = .ok (table, found)) (reply : State → State) :
    lookupItem x.tag k reply (appendItem x s) =
      reply (joinInquiry x.tag k (appendItem { x with pinned := true } (s.setTally { s.tally with table := table }))) := by
  have hpinned := changeItem_appendItem (s := s.setTally { s.tally with table := table }) hfresh
    fun y => { y with pinned := true }
  unfold lookupItem
  rw [show (appendItem x s).tally = s.tally from rfl, show (appendItem x s).rules = s.rules from rfl, h]
  have hjoined := congrArg (fun t => reply (joinInquiry x.tag k t)) hpinned
  match found, hne with
  | some .unsure, _ => exact hjoined
  | none, _ => exact hjoined

/-! ## An accepted item (R30 to R34, R107, R159) -/

section
variable {r : Request} (hfresh : ∀ y ∈ s.arrival.items, y.tag ≠ s.arrival.nextTag)
include hfresh

theorem acceptItem_rejected (hp : pretest (newItem r s).chars (newItem r s).part = false) :
    acceptItem r s = answerRequest r .done [s.arrival.nextTag]
      (occurAll (itemConditions ((newItem r s).decidedAs .reject .none)) (appendItem ((newItem r s).decidedAs .reject .none) s)) := by
  have hdecided := decideItem_appendItem (x := newItem r s) hfresh nofun rfl .reject .none
  rw [acceptItem, hp]
  exact congrArg (answerRequest r .done [s.arrival.nextTag]) hdecided

section
variable {found : Option Nat} (hp : pretest (newItem r s).chars (newItem r s).part = true)
  (hfound : scanFrom (newItem r s).key .presented s.watch 0 = found)
include hp hfound

theorem acceptItem_diverted (hd : ((found.bind fun i => s.watch[i]?).map WatchEntry.divert).getD false = true) :
    acceptItem r s = answerRequest r .done [s.arrival.nextTag]
      (occurAll (itemConditions ({ newItem r s with watchMatch := found }.decidedAs .hold .watch))
        (appendItem ({ newItem r s with watchMatch := found }.decidedAs .hold .watch) (s.setWatch (hitBy found s.watch)))) := by
  have hscan := presentedScan_appendItem (x := newItem r s) hfresh rfl hfound
  have hdecided := decideItem_appendItem (x := { newItem r s with watchMatch := found })
    (s := s.setWatch (hitBy found s.watch)) hfresh nofun rfl .hold .watch
  rw [acceptItem, hp, hscan, hd]
  exact congrArg (answerRequest r .done [s.arrival.nextTag]) hdecided

theorem acceptItem_lookedUp (hd : ((found.bind fun i => s.watch[i]?).map WatchEntry.divert).getD false = false) :
    acceptItem r s = lookupItem s.arrival.nextTag (newItem r s).key (answerRequest r .done [s.arrival.nextTag])
      (appendItem { newItem r s with watchMatch := found } (s.setWatch (hitBy found s.watch))) := by
  have hscan := presentedScan_appendItem (x := newItem r s) hfresh rfl hfound
  rw [acceptItem, hp, hscan, hd]
  rfl

end
end

end Sys2Proof.Machine

open Sys2Proof Sys2Proof.Machine

/-- Settles O25, by the checks in their order: state, role, room, pretest and the PRESENTED scan. -/
theorem presentRefusedOrDecided : Obligations.PresentRefusedOrDecided := by
  unfold Obligations.PresentRefusedOrDecided
  intro s rest chars p0 p1 m0 m1 hlen h
  have hserving : Serving s (presentRequest chars p0 p1 m0 m1) rest := h
  have hnew := newItem_presentRequest (s := s) (p0 := p0) (p1 := p1) (m0 := m0) (m1 := m1) hlen
  dsimp only
  refine ⟨exec_present_elsewhere hserving, fun hrun ho => ?_, fun hrun ho hfull => ?_, fun hrun ho hroom hfresh =>
    ⟨fun hp => ?_, fun i w hp hscan hw hd => ?_⟩⟩
  · rw [exec_present_run hserving hrun, if_pos ho]
  · rw [exec_present_run hserving hrun, if_neg (by simp [ho]), if_pos hfull]
  · rw [exec_present_run hserving hrun, if_neg (by simp [ho]), if_neg (by omega)]
    refine congrArg (Host.Outcome.next ∘ refresh) ?_
    have haccepted := acceptItem_rejected (r := presentRequest chars p0 p1 m0 m1) hfresh (by rw [hnew]; exact hp)
    rw [hnew] at haccepted
    exact haccepted.trans (answerRequest_eq (by rw [occurAll_port]; exact buffer_of_serving h))
  · have hdivert : (((some i).bind fun i => s.watch[i]?).map WatchEntry.divert).getD false = true := by
      rw [Option.bind_some, hw]
      exact hd
    have hhit : hitBy (some i) s.watch = s.watch.set i { w with hits := min 255 (w.hits + 1) } := by
      rw [hitBy, addHit, List.modify_eq_set_getElem?, hw]
      rfl
    rw [exec_present_run hserving hrun, if_neg (by simp [ho]), if_neg (by omega)]
    refine congrArg (Host.Outcome.next ∘ refresh) ?_
    have haccepted := acceptItem_diverted (r := presentRequest chars p0 p1 m0 m1) (found := some i) hfresh
      (by rw [hnew]; exact hp) (by rw [hnew]; exact hscan) hdivert
    rw [hnew, hhit] at haccepted
    exact haccepted.trans (answerRequest_eq (by rw [occurAll_port]; exact buffer_of_serving h))

section
namespace Sys2Proof.Machine

/-! ## What the lookup of a title finds (R3, R7, R22) -/

theorem lookup_found {r : Rules} {t : List Entry} {k : TitleKey} {e : Entry} {c : Certainty} (hf : findEntry t k = some e)
    (hp : e.parityOk = true) (hc : e.certainty = c) : lookup r t k =
      .ok ({ e with pins := e.pins + 1 } :: t.filter fun x => x.key ≠ k, some c) := by
  subst hc
  have hkey := key_of_findEntry hf
  rw [lookup, hf]
  simp only [hp, Bool.not_true, Bool.false_eq_true, if_false, putFirst, dropEntry, hkey, bne, ne_eq, decide_not,
    Bool.beq_eq_decide_eq]

theorem lookup_spoilt {r : Rules} {t : List Entry} {k : TitleKey} {e : Entry} (hf : findEntry t k = some e)
    (hp : e.parityOk = false) : lookup r t k = .error e.key := by
  rw [lookup, hf]
  simp only [hp, Bool.not_false, if_true]

theorem lookup_absent {r : Rules} {t room : List Entry} {k : TitleKey} (hf : findEntry t k = none)
    (hroom : makeRoom r t = .ok room) : lookup r t k =
      .ok ({ key := k, count := 0, refMass := none, certainty := .unsure, lastClaim := none, pins := 1 } :: room, none) := by
  rw [lookup, hf]
  simp only [hroom]
  rfl

theorem lookup_noRoom {r : Rules} {t : List Entry} {k bad : TitleKey} (hf : findEntry t k = none)
    (hroom : makeRoom r t = .error bad) : lookup r t k = .error bad := by
  rw [lookup, hf]
  simp only [hroom]
  rfl

end Sys2Proof.Machine
end

section
namespace Sys2Proof.Machine

/-- The record of an accepted item that is looked up, as it stands at its lookup. -/
def lookedUpItem (s : State) (chars : List Byte) (part m : BitVec 16) (found : Option Nat) : Item :=
  { tag := s.arrival.nextTag, chars := chars, part := part, mass := massIntake m, cls := s.rules.classOfChars chars
    watchMatch := found, deadline := s.rules.dwell, accepted := s.arrival.accepted }

/-- A PRESENT that passes its checks, the pretest and the PRESENTED scan comes to its lookup. -/
theorem exec_present_lookup {s : State} {rest : List Request} {chars : List Byte} {p0 p1 m0 m1 : Byte}
    (hlen : chars.length = 13) (h : Serving s (presentRequest chars p0 p1 m0 m1) rest) (hrun : s.station.state = .run)
    (ho : s.station.observer = false) (hroom : s.arrival.items.length < 8)
    (hfresh : ∀ y ∈ s.arrival.items, y.tag ≠ s.arrival.nextTag) (hp : pretest chars (p1 ++ p0) = true)
    {found : Option Nat} (hfound : scanFrom (keyOfChars chars (p1 ++ p0)) .presented s.watch 0 = found)
    (hnodivert : ∀ i ∈ found, ((s.watch[i]?).map WatchEntry.divert).getD false = false) :
    exec .present s = .next (refresh (lookupItem s.arrival.nextTag (keyOfChars chars (p1 ++ p0))
      (answerRequest (presentRequest chars p0 p1 m0 m1) .done [s.arrival.nextTag])
      (appendItem (lookedUpItem s chars (p1 ++ p0) (m1 ++ m0) found) (s.setWatch (hitBy found s.watch))))) := by
  have hnew := newItem_presentRequest (s := s) (p0 := p0) (p1 := p1) (m0 := m0) (m1 := m1) hlen
  have hdivert : ((found.bind fun i => s.watch[i]?).map WatchEntry.divert).getD false = false := by
    cases found with
    | none => rfl
    | some i => exact hnodivert i rfl
  have haccepted := acceptItem_lookedUp (r := presentRequest chars p0 p1 m0 m1) hfresh (by rw [hnew]; exact hp)
    (by rw [hnew]; exact hfound) hdivert
  rw [hnew] at haccepted
  rw [exec_present_run h hrun, if_neg (by simp [ho]), if_neg (by omega), haccepted]
  rfl

end Sys2Proof.Machine
end

/-- Settles O26, by what the lookup of the title finds. -/
theorem presentLooksUp : Obligations.PresentLooksUp := by
  unfold Obligations.PresentLooksUp
  intro s rest chars p0 p1 m0 m1 hlen h hrun ho hroom hfresh
  dsimp only
  intro hp found hfound hnodivert
  have hexec := exec_present_lookup hlen h hrun ho hroom hfresh hp hfound hnodivert
  rw [hexec]
  have hreply {u : State} (hu : u.port = s.port) :
      answerRequest (presentRequest chars p0 p1 m0 m1) .done [s.arrival.nextTag] u =
        u.replied rest [1, 0, s.arrival.nextTag] :=
    answerRequest_eq (by rw [hu]; exact buffer_of_serving h)
  have hfresh' : ∀ y ∈ (s.setWatch (hitBy found s.watch)).arrival.items,
      y.tag ≠ (lookedUpItem s chars (p1 ++ p0) (m1 ++ m0) found).tag := hfresh
  have hcertain {table : List Entry} (hlook : lookup s.rules s.tally.table (keyOfChars chars (p1 ++ p0)) =
      .ok (table, some .certain)) := (lookupItem_certain hfresh' hlook
        (answerRequest (presentRequest chars p0 p1 m0 m1) .done [s.arrival.nextTag])).trans (hreply rfl)
  have hinquiring {table : List Entry} {certainty : Option Certainty} (hne : certainty ≠ some .certain)
      (hlook : lookup s.rules s.tally.table (keyOfChars chars (p1 ++ p0)) = .ok (table, certainty)) :=
    (lookupItem_inquiring hfresh' hne hlook
        (answerRequest (presentRequest chars p0 p1 m0 m1) .done [s.arrival.nextTag])).trans
      ((hreply (by rw [joinInquiry_port]; rfl)).trans (congrArg (State.replied · rest [1, 0, s.arrival.nextTag])
        (joinInquiry_appendItem (x := { lookedUpItem s chars (p1 ++ p0) (m1 ++ m0) found with pinned := true })
          (s := (s.setWatch (hitBy found s.watch)).setTally { s.tally with table := table }) hfresh'
          (keyOfChars chars (p1 ++ p0)))))
  have hhalts {bad : TitleKey} (hlook : lookup s.rules s.tally.table (keyOfChars chars (p1 ++ p0)) = .error bad) :=
    (lookupItem_error (s := appendItem (lookedUpItem s chars (p1 ++ p0) (m1 ++ m0) found) (s.setWatch (hitBy found s.watch)))
      hlook s.arrival.nextTag (answerRequest (presentRequest chars p0 p1 m0 m1) .done [s.arrival.nextTag])).trans
      (congrArg _ (hreply rfl))
  refine ⟨fun e he hok hc => ?_, fun e he hok hc => ?_, fun hnone hsmall => ?_, fun room hnone _ hmade => ?_,
    fun bad hnone hmade => ?_, fun e he hspoilt => ?_⟩
  · exact congrArg (Host.Outcome.next ∘ refresh) (hcertain (lookup_found he hok hc))
  · exact congrArg (Host.Outcome.next ∘ refresh) (hinquiring (by simp) (lookup_found he hok hc))
  · exact congrArg (Host.Outcome.next ∘ refresh) (hinquiring (by simp) (lookup_absent hnone (makeRoom_of_lt _ hsmall)))
  · exact congrArg (Host.Outcome.next ∘ refresh) (hinquiring (by simp) (lookup_absent hnone hmade))
  · exact congrArg (Host.Outcome.next ∘ refresh) (hhalts (lookup_noRoom hnone hmade))
  · exact congrArg (Host.Outcome.next ∘ refresh) (hhalts (lookup_spoilt he hspoilt))
end

section
/-! Proofs about peer frames in line order. -/

namespace Sys2Proof.Machine

variable {s : State} {f : StoredFrame}

/-! ## Frames taken -/

/-- A peer frame of a command's kind is handled, its store free. -/
theorem peerFrame_handled {kind : FrameKind} {handle : StoredFrame → State → State} (h : Takes false f s)
    (hl : f.lane ≠ s.station.lane) (hk : f.kind = kind) :
    handleFrame false kind handle s = refresh (handle f (s.freed f)) := handleFrame_taken h hk (.inr hl)

/-- A station that receives transmits in every state but CONFIGURING. -/
theorem transmits_iff_of_receives {st : StationState} (h : st.receives = true) : st.transmits = true ↔ st ≠ .configuring := by
  cases st with
  | strapFault => cases h
  | halted => cases h
  | configuring => simp [StationState.transmits]
  | joining => simp [StationState.transmits]
  | run => simp [StationState.transmits]
  | paused => simp [StationState.transmits]

/-- The state after an application, its frame's store free. -/
def State.applied (s : State) (f : StoredFrame) (table : List Entry) : State :=
  { s.freed f with tally := { s.tally with table := table } }

/-! ## Records and entries removed together -/

/-- Entries of several owners removed, the others keeping their order. -/
theorem foldl_removeEntry_eq {α : Type} (owner : α → Owner) (gone : List α) : ∀ a : LineAccess,
    gone.foldl (fun a x => a.removeEntry (owner x)) a =
      { a with queue := a.queue.filter fun e => !gone.any fun x => e.owner == owner x } := by
  induction gone with
  | nil =>
    intro a
    simp
  | cons x gone ih =>
    intro a
    rw [List.foldl_cons, ih, LineAccess.removeEntry, List.filter_filter]
    congr 1
    refine List.filter_congr fun e _ => ?_
    simp [bne, Bool.and_comm]

theorem removeCorrections_eq (p : Correction → Bool) (s : State) : removeCorrections p s =
    { s with
      claim := { s.claim with corrections := s.claim.corrections.filter fun c => !p c }
      access := { s.access with queue := s.access.queue.filter fun e =>
        !(s.claim.corrections.any fun c => p c && e.owner == .correction c.claimLane c.claimSeq c.number) } } := by
  rw [removeCorrections, foldl_removeEntry_eq Correction.owner]
  simp only [List.any_filter]
  rfl

theorem removeAnswers_eq (p : Answer → Bool) (s : State) : removeAnswers p s =
    { s with
      inquiry := { s.inquiry with answers := s.inquiry.answers.filter fun x => !p x }
      access := { s.access with queue := s.access.queue.filter fun e =>
        !(s.inquiry.answers.any fun x => p x && e.owner == .answer x.inquirer x.key) } } := by
  rw [removeAnswers, foldl_removeEntry_eq fun x : Answer => .answer x.inquirer x.key]
  simp only [List.any_filter]
  rfl

/-- Which pending corrections a heard CORRECTION withdraws, in the words of R71. -/
theorem Correction.suppressedBy_eq (p : Correction) (c : CorrectionFields) : p.suppressedBy c =
    decide (p.claimLane.toNat = c.claimLane.toNat ∧ p.claimSeq = c.claimSeq ∧ p.stage ≠ .sending ∧ p.value ≤ c.value) := by
  rw [Bool.eq_iff_iff]
  simp only [Correction.suppressedBy, Correction.names, namesLane, Bool.and_eq_true, beq_iff_eq, bne_iff_ne,
    decide_eq_true_eq, and_assoc, eq_comm (a := c.claimLane.toNat)]

/-! ## A record found and changed -/

theorem find?_append_of_not {α : Type} {p : α → Bool} {before behind : List α} {x : α} (hx : p x = true)
    (hbefore : ∀ y ∈ before, p y = false) : (before ++ x :: behind).find? p = some x :=
  List.find?_eq_some_iff_append.2 ⟨hx, before, behind, rfl, fun y hy => by simp [hbefore y hy]⟩

/-- The record of a tag no other carries, changed in its place. -/
theorem changeItem_of_append {before behind : List Item} {it : Item} (hitems : s.arrival.items = before ++ it :: behind)
    (hne : ∀ x ∈ before ++ behind, x.tag ≠ it.tag) (g : Item → Item) :
    changeItem it.tag g s = { s with arrival := { s.arrival with items := before ++ g it :: behind } } := by
  have keep (l : List Item) (hl : ∀ x ∈ l, x.tag ≠ it.tag) : (l.map fun x => if x.tag = it.tag then g x else x) = l :=
    (List.map_congr_left fun x hx => if_neg (hl x hx)).trans (List.map_id l)
  rw [changeItem, Arrival.change_eq, hitems, List.map_append, List.map_cons, if_pos rfl,
    keep before fun x hx => hne x (List.mem_append_left _ hx), keep behind fun x hx => hne x (List.mem_append_right _ hx)]
  rfl

/-! ## A peer CLAIM (R5, R11, R12, R61) -/

theorem handlePeerClaim_error {k : TitleKey}
    (h : applyClaim s.rules s.tally.table f.lane (readClaim f.payload) = .error k) : handlePeerClaim f s = memoryFault k s := by
  unfold handlePeerClaim
  dsimp only
  rw [h]

theorem staleBasis_iff {a : Applied} {old new : Nat} (hc : a.counts = some (old, new)) (basis : Nat) :
    staleBasis a basis = true ↔ a.held = true ∧ basis < old := by
  simp [staleBasis, hc]

theorem handlePeerClaim_applied (hr : s.station.state.receives = true) {a : Applied} {old new : Nat}
    (h : applyClaim s.rules s.tally.table f.lane (readClaim f.payload) = .ok a) (hc : a.counts = some (old, new)) :
    handlePeerClaim f s =
      let c := readClaim f.payload
      let judged := rosterCheck .claim f.lane c.seq c.key
        (scanApplied c.key f.lane true a.counts (s.setTally { s.tally with table := a.table }))
      if a.held = true ∧ c.basis < old ∧ s.station.state ≠ .configuring then
        scheduleCorrection f.lane c.seq c.key new judged
      else judged := by
  unfold handlePeerClaim
  dsimp only
  rw [h]
  simp only [Bool.and_eq_true, staleBasis_iff hc, rosterCheck_station, scanApplied_station, and_assoc, hc, Option.map_some,
    Option.getD_some]
  simp only [show (s.setTally { s.tally with table := a.table }).station = s.station from rfl, transmits_iff_of_receives hr]

/-! ## A peer CORRECTION (R5, R13, R41, R71, R73, R74) -/

theorem handlePeerCorrection_error {k : TitleKey}
    (h : applyCorrection s.rules s.tally.table (readCorrection f.payload) = .error k) :
    handlePeerCorrection f s = memoryFault k s := by
  unfold handlePeerCorrection
  dsimp only
  rw [h]

/-- A correction brought to the item it may name, where it names this station's lane (R73). -/
def takeIfNamed (c : CorrectionFields) (lane : Lane) (s : State) : State :=
  if c.claimLane.toNat = s.station.lane.toNat then takeCorrection lane c s else s

theorem takeIfNamed_keeps (c : CorrectionFields) (lane : Lane) (s : State) :
    (takeIfNamed c lane s).claim = s.claim ∧ (takeIfNamed c lane s).access = s.access := by
  unfold takeIfNamed
  split
  · exact ⟨takeCorrection_claim .., takeCorrection_access ..⟩
  · exact ⟨rfl, rfl⟩

theorem handlePeerCorrection_applied {a : Applied}
    (h : applyCorrection s.rules s.tally.table (readCorrection f.payload) = .ok a) :
    handlePeerCorrection f s =
      let c := readCorrection f.payload
      let judged := rosterCheck .correction f.lane c.seq c.key
        (scanApplied c.key f.lane false a.counts (s.setTally { s.tally with table := a.table }))
      removeCorrections (fun p => p.suppressedBy c) (takeIfNamed c f.lane judged) := by
  unfold handlePeerCorrection
  dsimp only
  rw [h]
  simp only [namesLane, beq_iff_eq]
  rfl

/-- A correction of an own claim whose item is no longer settling (R73). -/
theorem takeCorrection_late {c : CorrectionFields}
    (h : ∀ it ∈ s.arrival.items, ¬ (it.stage = .settling ∧ it.claimSeq = some c.claimSeq)) (lane : Lane) :
    takeCorrection lane c s = occur .lateCorrection
      { condition := .lateCorrection, source := .line lane, title := some (portKey c.key), value := some c.value } s := by
  have hnone : (s.arrival.items.find? fun it => it.stage == .settling && it.claimSeq == some c.claimSeq) = none :=
    List.find?_eq_none.2 fun it hit => by simpa using h it hit
  rw [takeCorrection, hnone]

/-- A correction of an own claim raises the ordinal of its item in SETTLING (R41). -/
theorem takeCorrection_settling {c : CorrectionFields} {before behind : List Item} {it : Item} {n : Nat}
    (hitems : s.arrival.items = before ++ it :: behind)
    (hothers : ∀ x ∈ before ++ behind, x.tag ≠ it.tag ∧ ¬ (x.stage = .settling ∧ x.claimSeq = some c.claimSeq))
    (hit : it.stage = .settling ∧ it.claimSeq = some c.claimSeq) (hn : it.ordinal = some n) (lane : Lane) :
    takeCorrection lane c s = { s with arrival := { s.arrival with items := before ++
      { it with ordinal := some (max n c.value), corrected := it.corrected || decide (n < c.value) } :: behind } } := by
  have hfind : (s.arrival.items.find? fun it => it.stage == .settling && it.claimSeq == some c.claimSeq) = some it := by
    rw [hitems]
    refine find?_append_of_not (by simp [hit]) fun y hy => ?_
    simpa using (hothers y (List.mem_append_left _ hy)).2
  rw [takeCorrection, hfind]
  simp only [hn, Option.getD_some]
  exact changeItem_of_append hitems (fun x hx => (hothers x hx).1) _

end Sys2Proof.Machine

open Sys2Proof Sys2Proof.Machine

/-- Settles O44, by the kind of the frame and what its application answers. -/
theorem peerClaimAndCorrectionHandled : Obligations.PeerClaimAndCorrectionHandled := by
  unfold Obligations.PeerClaimAndCorrectionHandled
  intro s f h hl
  refine ⟨fun hk => ?_, fun hk => ?_⟩
  · have hexec : exec .peerClaim s = .next (refresh (handlePeerClaim f (s.freed f))) :=
      congrArg Host.Outcome.next (peerFrame_handled h hl hk)
    rw [hexec]
    refine ⟨fun k hbad => congrArg (Host.Outcome.next ∘ refresh) (handlePeerClaim_error (s := s.freed f) hbad), fun a ha old new hc => ?_⟩
    have hclaim := handlePeerClaim_applied (s := s.freed f) h.2.1 ha hc
    rw [hclaim]
    exact ⟨fun hstale => congrArg (Host.Outcome.next ∘ refresh) (if_pos hstale),
      fun hstale => congrArg (Host.Outcome.next ∘ refresh) (if_neg hstale)⟩
  · have hexec : exec .peerCorrection s = .next (refresh (handlePeerCorrection f (s.freed f))) :=
      congrArg Host.Outcome.next (peerFrame_handled h hl hk)
    rw [hexec]
    refine ⟨fun k hbad => congrArg (Host.Outcome.next ∘ refresh) (handlePeerCorrection_error (s := s.freed f) hbad), fun a ha => ?_⟩
    have hcorrection := handlePeerCorrection_applied (s := s.freed f) ha
    obtain ⟨judged, hjudged⟩ : ∃ judged, judged = rosterCheck .correction f.lane (readCorrection f.payload).seq
        (readCorrection f.payload).key (scanApplied (readCorrection f.payload).key f.lane false a.counts (s.applied f a.table)) :=
      ⟨_, rfl⟩
    have hcorrections : judged.claim.corrections = s.claim.corrections := by
      rw [hjudged, rosterCheck_corrections, scanApplied_claim]
      rfl
    have haccess : judged.access = s.access := by
      rw [hjudged, rosterCheck_access, scanApplied_access]
      rfl
    have hstation : judged.station = s.station := by
      rw [hjudged, rosterCheck_station, scanApplied_station]
      rfl
    have harrival : judged.arrival = s.arrival := by
      rw [hjudged, rosterCheck_arrival, scanApplied_arrival]
      rfl
    have hhandled : handlePeerCorrection f (s.freed f) =
        removeCorrections (fun p => p.suppressedBy (readCorrection f.payload))
          (takeIfNamed (readCorrection f.payload) f.lane judged) := by
      rw [hjudged]
      exact handlePeerCorrection_applied (s := s.freed f) ha
    have named (hlane : (readCorrection f.payload).claimLane.toNat = s.station.lane.toNat) :
        takeIfNamed (readCorrection f.payload) f.lane judged = takeCorrection f.lane (readCorrection f.payload) judged :=
      if_pos (hstation ▸ hlane)
    refine ⟨takeIfNamed (readCorrection f.payload) f.lane judged, ?_, fun hlane => ?_, fun hlane hnone => ?_,
      fun before it behind n hlane hitems hothers hit hn => ?_⟩
    · obtain ⟨hclaim, htaken⟩ := takeIfNamed_keeps (readCorrection f.payload) f.lane judged
      rw [hhandled, removeCorrections_eq]
      simp only [hclaim, htaken, hcorrections, haccess, Correction.suppressedBy_eq]
    · exact (if_neg (hstation ▸ hlane)).trans hjudged
    · rw [named hlane, takeCorrection_late (harrival ▸ hnone), hjudged]
      rfl
    · rw [named hlane, takeCorrection_settling (harrival ▸ hitems) hothers hit hn, hjudged]
      rfl
end

section
/-! Proofs about peer answers, inquiries and greetings in line order. -/

namespace Sys2Proof.Machine

variable {s : State} {f : StoredFrame}

/-! ## A peer INQUIRY (R93) -/

theorem touchEntry_spoilt {t : List Entry} {k : TitleKey} {e : Entry} (hf : findEntry t k = some e)
    (hp : e.parityOk = false) : touchEntry t k = .error e.key := by
  rw [touchEntry, hf]
  simp only [hp, Bool.not_false, if_true]

/-- An entry touched, in the words of R2. -/
theorem putFirst_of_key {t : List Entry} {k : TitleKey} {e : Entry} (hk : e.key = k) :
    putFirst t e = e :: t.filter fun x => x.key ≠ k := by
  rw [putFirst_eq, hk]

theorem mergeAnswer_spoilt {t : List Entry} {x : AnswerFields} {e : Entry} (hf : findEntry t x.key = some e)
    (hp : e.parityOk = false) : mergeAnswer t x = .error e.key := by
  rw [mergeAnswer, hf]
  simp only [hp, Bool.not_false, if_true]

theorem handlePeerInquiry_error {k : TitleKey} (h : touchEntry s.tally.table (readInquiry f.payload) = .error k) :
    handlePeerInquiry f s = memoryFault k s := by
  unfold handlePeerInquiry
  dsimp only
  rw [h]

theorem handlePeerInquiry_touched {table : List Entry} {found : Option Entry}
    (h : touchEntry s.tally.table (readInquiry f.payload) = .ok (table, found)) :
    handlePeerInquiry f s = scheduleAnswer f.lane (readInquiry f.payload) (found.map Entry.count)
      (s.setTally { s.tally with table := table }) := by
  unfold handlePeerInquiry
  dsimp only
  rw [h]

/-- The conditions of R93 on a station that receives. -/
def State.owesAnswer (s : State) (inquirer : Lane) (k : TitleKey) (found : Option Entry) : Prop :=
  s.station.state ≠ .configuring ∧ (∃ e, found = some e ∧ 1 ≤ e.count) ∧
    ∀ x ∈ s.inquiry.answers, ¬ (x.inquirer = inquirer ∧ x.key = k)

theorem owesAnswer_iff (hr : s.station.state.receives = true) (inquirer : Lane) (k : TitleKey) (found : Option Entry) :
    (s.station.state.transmits && decide (1 ≤ (found.map Entry.count).getD 0) &&
      !s.inquiry.answers.any (fun x => x.inquirer == inquirer && x.key == k)) = true ↔ s.owesAnswer inquirer k found := by
  have hfound : 1 ≤ (found.map Entry.count).getD 0 ↔ ∃ e, found = some e ∧ 1 ≤ e.count := by
    cases found <;> simp
  have hanswers : (s.inquiry.answers.any (fun x => x.inquirer == inquirer && x.key == k)) = false ↔
      ∀ x ∈ s.inquiry.answers, ¬ (x.inquirer = inquirer ∧ x.key = k) := by
    simp [List.any_eq_false]
  simp only [Bool.and_eq_true, decide_eq_true_eq, Bool.not_eq_true', transmits_iff_of_receives hr, hfound, hanswers, and_assoc]
  rfl

theorem scheduleAnswer_none {inquirer : Lane} {k : TitleKey} {found : Option Entry} (hr : s.station.state.receives = true)
    (h : ¬ s.owesAnswer inquirer k found) : scheduleAnswer inquirer k (found.map Entry.count) s = s :=
  if_neg (mt (owesAnswer_iff hr inquirer k found).1 h)

theorem scheduleAnswer_room {inquirer : Lane} {k : TitleKey} {found : Option Entry} (hr : s.station.state.receives = true)
    (h : s.owesAnswer inquirer k found) (hroom : s.inquiry.answers.length < 4) :
    scheduleAnswer inquirer k (found.map Entry.count) s = { s with inquiry := { s.inquiry with answers := s.inquiry.answers ++
      [{ inquirer := inquirer, key := k, stage := .holding, holdOff := s.station.lane.toNat * 6000 }] } } :=
  (if_pos ((owesAnswer_iff hr inquirer k found).2 h)).trans (if_pos hroom)

theorem scheduleAnswer_full {inquirer : Lane} {k : TitleKey} {found : Option Entry} (hr : s.station.state.receives = true)
    (h : s.owesAnswer inquirer k found) (hfull : 4 ≤ s.inquiry.answers.length) :
    scheduleAnswer inquirer k (found.map Entry.count) s = occur .transmitBacklog
      { condition := .transmitBacklog, source := .line inquirer
        title := some { chars := k.digits.map charOfDigit, part := k.part }, value := some 5 } s :=
  (if_pos ((owesAnswer_iff hr inquirer k found).2 h)).trans (if_neg (Nat.not_lt.2 hfull))

/-! ## A peer ANSWER (R14, R97) -/

theorem handlePeerAnswer_error {k : TitleKey} (h : mergeAnswer s.tally.table (readAnswer f.payload) = .error k) :
    handlePeerAnswer f s = memoryFault k s := by
  unfold handlePeerAnswer
  dsimp only
  rw [h]

theorem handlePeerAnswer_merged {a : Applied} (h : mergeAnswer s.tally.table (readAnswer f.payload) = .ok a) :
    handlePeerAnswer f s =
      let x := readAnswer f.payload
      removeAnswers (fun p => p.suppressedBy x ((findEntry a.table x.key).map Entry.count))
        (scanApplied x.key f.lane false a.counts (s.setTally { s.tally with table := a.table })) := by
  unfold handlePeerAnswer
  dsimp only
  rw [h]

/-- Which pending answers a heard ANSWER withdraws, in the words of R97. -/
theorem Answer.suppressedBy_iff (p : Answer) (x : AnswerFields) (found : Option Entry) :
    p.suppressedBy x (found.map Entry.count) = true ↔ p.inquirer.toNat = x.inquirer.toNat ∧ p.key = x.key ∧
      p.stage ≠ .sending ∧ ∀ e, found = some e → e.count ≤ x.count := by
  cases found <;>
    simp [Answer.suppressedBy, namesLane, and_assoc, eq_comm (a := x.inquirer.toNat)]

end Sys2Proof.Machine

open Sys2Proof Sys2Proof.Machine

/-- Settles O45, by the kind of the frame, after its lane. -/
theorem otherPeerFramesHandled : Obligations.OtherPeerFramesHandled := by
  unfold Obligations.OtherPeerFramesHandled
  intro s f h
  have hinquiry (hl : f.lane ≠ s.station.lane) (hk : f.kind = .inquiry) :
      exec .peerInquiry s = .next (refresh (handlePeerInquiry f (s.freed f))) :=
    congrArg Host.Outcome.next (peerFrame_handled h hl hk)
  have hanswer (hl : f.lane ≠ s.station.lane) (hk : f.kind = .answer) :
      exec .peerAnswer s = .next (refresh (handlePeerAnswer f (s.freed f))) :=
    congrArg Host.Outcome.next (peerFrame_handled h hl hk)
  refine ⟨fun hl => ?_, fun hl hk => ?_, fun hl hk table found htouch => ?_, fun e hl hp => ⟨fun hk hf => ?_, fun hk hf => ?_⟩,
    fun hl hk a hmerge => ?_⟩
  · obtain ⟨hon, hr, htakes⟩ := h
    refine congrArg Host.Outcome.next ?_
    unfold duplicateLane
    rw [htakes]
    simp only [hon, hr, hl, Bool.and_self, if_true, beq_self_eq_true]
    rfl
  · refine congrArg Host.Outcome.next ((peerFrame_handled h hl hk).trans ?_)
    simp only [handlePeerGreeting, readRole, beq_iff_eq]
    rfl
  · have hr : ((s.freed f).setTally { s.tally with table := table }).station.state.receives = true := h.2.1
    have hhandled := handlePeerInquiry_touched (s := s.freed f) (f := f) htouch
    dsimp only
    rw [hinquiry hl hk, hhandled]
    refine ⟨fun e he => ?_, fun hnone => ?_, fun hno => ?_, fun hyes hroom => ?_, fun hyes hfull => ?_⟩
    · rcases touchEntry_cases htouch with ⟨e', he', -, heq⟩ | ⟨hnone, -⟩
      · obtain rfl : e = e' := Option.some.inj (he.symm.trans he')
        obtain ⟨rfl, rfl⟩ := Prod.mk.inj heq
        exact ⟨putFirst_of_key (key_of_findEntry he), rfl⟩
      · rw [hnone] at he
        cases he
    · rcases touchEntry_cases htouch with ⟨e', he', -, -⟩ | ⟨-, heq⟩
      · rw [hnone] at he'
        cases he'
      · exact Prod.mk.inj heq
    · exact congrArg (Host.Outcome.next ∘ refresh) (scheduleAnswer_none hr hno)
    · exact congrArg (Host.Outcome.next ∘ refresh) (scheduleAnswer_room hr hyes hroom)
    · exact congrArg (Host.Outcome.next ∘ refresh) (scheduleAnswer_full hr hyes hfull)
  · rw [hinquiry hl hk]
    exact congrArg (Host.Outcome.next ∘ refresh) (handlePeerInquiry_error (s := s.freed f) (touchEntry_spoilt hf hp))
  · rw [hanswer hl hk]
    exact congrArg (Host.Outcome.next ∘ refresh) (handlePeerAnswer_error (s := s.freed f) (mergeAnswer_spoilt hf hp))
  · have hhandled := handlePeerAnswer_merged (s := s.freed f) (f := f) hmerge
    have hwithdrawn (p : Answer) := p.suppressedBy_iff (readAnswer f.payload) (findEntry a.table (readAnswer f.payload).key)
    dsimp only
    rw [hanswer hl hk, hhandled, removeAnswers_eq]
    refine ⟨_, rfl, rfl, ?_, fun p => ?_, rfl, fun e => ?_⟩
    · simp only [scanApplied_inquiry]
      rfl
    · rw [← hwithdrawn]
      simp only [scanApplied_inquiry, List.mem_filter, Bool.not_eq_true', Bool.not_eq_true]
      rfl
    · simp only [scanApplied_inquiry, List.mem_filter, ← hwithdrawn, Bool.not_eq_true', List.any_eq_false,
        Bool.and_eq_true, beq_iff_eq, not_and]
      rfl
end

section
/-! Proofs about own frames in line order. -/

namespace Sys2Proof.Machine

variable {s : State} {f : StoredFrame}

/-- An own frame of a command's kind is handled, its store free. -/
theorem ownFrame_handled {kind : FrameKind} {handle : StoredFrame → State → State} (h : Takes true f s)
    (hk : f.kind = kind) : handleFrame true kind handle s = refresh (handle f (s.freed f)) :=
  handleFrame_taken h hk (.inl rfl)

/-! ## The own CLAIM (R12, R40, R47) -/

theorem handleOwnClaim_error {k : TitleKey}
    (h : applyClaim s.rules s.tally.table f.lane (readClaim f.payload) = .error k) : handleOwnClaim f s = memoryFault k s := by
  unfold handleOwnClaim
  dsimp only
  rw [h]

theorem handleOwnClaim_applied {a : Applied}
    (h : applyClaim s.rules s.tally.table f.lane (readClaim f.payload) = .ok a) :
    handleOwnClaim f s = assignOrdinal (readClaim f.payload).seq ((a.counts.map Prod.snd).getD 0)
      (scanApplied (readClaim f.payload).key f.lane true a.counts (s.setTally { s.tally with table := a.table })) := by
  unfold handleOwnClaim
  dsimp only
  rw [h]

theorem assignOrdinal_none {seq : Byte} (h : ∀ it ∈ s.arrival.items, ¬ (it.stage ≠ .decided ∧ it.claimSeq = some seq)) (n : Nat) :
    assignOrdinal seq n s = s := by
  have hnone : (s.arrival.items.find? fun it => it.undecided && it.claimSeq == some seq) = none :=
    List.find?_eq_none.2 fun it hit => by simpa [Item.undecided] using h it hit
  rw [assignOrdinal, hnone]

/-- The result of an own CLAIM at the item it serves: the settle timer runs, or a deadline at 0 decides it. -/
theorem assignOrdinal_served {seq : Byte} {before behind : List Item} {it : Item}
    (hitems : s.arrival.items = before ++ it :: behind)
    (hothers : ∀ x ∈ before ++ behind, x.tag ≠ it.tag ∧ ¬ (x.stage ≠ .decided ∧ x.claimSeq = some seq))
    (hit : it.stage ≠ .decided ∧ it.claimSeq = some seq) (n : Nat) :
    assignOrdinal seq n s =
      if 0 < it.deadline then
        { s with arrival := { s.arrival with items := before ++
          { it with ordinal := some n, stage := .settling, settle := some (s.rules.settleWindow * 24000) } :: behind } }
      else decideItem it.tag .hold .deadline
        { s with arrival := { s.arrival with items := before ++ { it with ordinal := some n } :: behind } } := by
  have hfind : (s.arrival.items.find? fun it => it.undecided && it.claimSeq == some seq) = some it := by
    rw [hitems]
    refine find?_append_of_not (by simp [Item.undecided, hit]) fun y hy => ?_
    simpa [Item.undecided] using (hothers y (List.mem_append_left _ hy)).2
  have htags : ∀ x ∈ before ++ behind, x.tag ≠ it.tag := fun x hx => (hothers x hx).1
  have hcounted := changeItem_of_append hitems htags fun x => { x with ordinal := some n }
  rw [assignOrdinal, hfind]
  dsimp only
  rw [hcounted]
  split
  · exact changeItem_of_append (it := { it with ordinal := some n }) rfl htags _
  · rfl

/-! ## The own CORRECTION and the own ANSWER (R72, R98) -/

theorem handleOwnCorrection_error {k : TitleKey}
    (h : applyCorrection s.rules s.tally.table (readCorrection f.payload) = .error k) :
    handleOwnCorrection f s = memoryFault k s := by
  unfold handleOwnCorrection
  dsimp only
  rw [h]

theorem handleOwnCorrection_applied {a : Applied}
    (h : applyCorrection s.rules s.tally.table (readCorrection f.payload) = .ok a) :
    handleOwnCorrection f s =
      let c := readCorrection f.payload
      let scanned := scanApplied c.key f.lane false a.counts (s.setTally { s.tally with table := a.table })
      { scanned with claim := { s.claim with corrections := s.claim.corrections.filter fun p => !p.sentAs c } } := by
  unfold handleOwnCorrection
  dsimp only
  rw [h]
  dsimp only
  rw [scanApplied_claim]
  rfl

theorem Correction.sentAs_eq (p : Correction) (c : CorrectionFields) : p.sentAs c =
    decide (p.claimLane.toNat = c.claimLane.toNat ∧ p.claimSeq = c.claimSeq ∧ p.stage = .sending ∧ p.drawn = some c.seq) := by
  rw [Bool.eq_iff_iff]
  simp only [Correction.sentAs, Correction.names, namesLane, Bool.and_eq_true, beq_iff_eq, decide_eq_true_eq, and_assoc,
    eq_comm (a := c.claimLane.toNat)]

theorem handleOwnAnswer_error {k : TitleKey} (h : mergeAnswer s.tally.table (readAnswer f.payload) = .error k) :
    handleOwnAnswer f s = memoryFault k s := by
  unfold handleOwnAnswer
  dsimp only
  rw [h]

theorem handleOwnAnswer_merged {a : Applied} (h : mergeAnswer s.tally.table (readAnswer f.payload) = .ok a) :
    handleOwnAnswer f s =
      let x := readAnswer f.payload
      let scanned := scanApplied x.key f.lane false a.counts (s.setTally { s.tally with table := a.table })
      { scanned with inquiry := { s.inquiry with answers := s.inquiry.answers.filter fun p => !p.sentAs x } } := by
  unfold handleOwnAnswer
  dsimp only
  rw [h]
  dsimp only
  rw [scanApplied_inquiry]
  rfl

theorem Answer.sentAs_eq (p : Answer) (x : AnswerFields) : p.sentAs x =
    decide (p.inquirer.toNat = x.inquirer.toNat ∧ p.key = x.key ∧ p.stage = .sending) := by
  rw [Bool.eq_iff_iff]
  simp only [Answer.sentAs, namesLane, Bool.and_eq_true, beq_iff_eq, decide_eq_true_eq, and_assoc,
    eq_comm (a := x.inquirer.toNat)]

/-! ## The own GREETING (R66, R77) -/

/-- Entries placed one after another, each behind all others of its kind (R139). -/
theorem foldl_placeLast_eq (l : List Correction) : ∀ a : LineAccess, l.foldl (fun a c => a.placeLast c.owner) a =
    { a with
      queue := a.queue ++ l.mapIdx fun i c => { owner := c.owner, place := a.placements + i }
      placements := a.placements + l.length } := by
  induction l with
  | nil =>
    intro a
    simp
  | cons c l ih =>
    intro a
    rw [List.foldl_cons, ih]
    simp [LineAccess.placeLast, LineAccess.placeEntry, List.mapIdx_cons, Nat.add_assoc, Nat.add_comm 1]

theorem releaseHeld_eq (s : State) : releaseHeld s = { s with
    claim := { s.claim with
      corrections := s.claim.corrections.map fun c => if c.stage = .held then { c with stage := .queued } else c }
    access := { s.access with
      queue := s.access.queue ++ (s.claim.corrections.filter fun c => c.stage = .held).mapIdx fun i c =>
        { owner := c.owner, place := s.access.placements + i }
      placements := s.access.placements + (s.claim.corrections.filter fun c => c.stage = .held).length } } := by
  simp only [releaseHeld, foldl_placeLast_eq, Bool.beq_eq_decide_eq, decide_eq_true_eq]
  rfl

theorem handleOwnGreeting_eq (f : StoredFrame) (s : State) : handleOwnGreeting f s = releaseHeld
    { s with
      station := { s.station with state := if s.station.state = .joining then .run else s.station.state }
      claim := { s.claim with
        ownSeq := 0
        roster := s.claim.roster.set (s.station.lane.toNat - 1)
          { present := true, lastSeq := 0, role := if s.station.observer then .observer else .lane } } } := by
  unfold handleOwnGreeting
  by_cases hj : s.station.state = .joining
  · simp only [hj, beq_self_eq_true, if_true]
    rfl
  · simp only [hj, beq_iff_eq, if_false]
    rfl

end Sys2Proof.Machine

open Sys2Proof Sys2Proof.Machine

/-- Settles O46, by the kind of the frame. -/
theorem ownFramesHandled : Obligations.OwnFramesHandled := by
  unfold Obligations.OwnFramesHandled
  intro s f h
  have hclaim (hk : f.kind = .claim) : exec .ownClaimApplied s = .next (refresh (handleOwnClaim f (s.freed f))) :=
    congrArg Host.Outcome.next (ownFrame_handled h hk)
  have hcorrection (hk : f.kind = .correction) :
      exec .ownCorrectionApplied s = .next (refresh (handleOwnCorrection f (s.freed f))) :=
    congrArg Host.Outcome.next (ownFrame_handled h hk)
  have hanswer (hk : f.kind = .answer) : exec .ownAnswerMerged s = .next (refresh (handleOwnAnswer f (s.freed f))) :=
    congrArg Host.Outcome.next (ownFrame_handled h hk)
  refine ⟨fun hk a ha => ?_, fun hk a ha => ?_, fun hk a ha => ?_, fun k => ⟨fun hk hbad => ?_, fun hk hbad => ?_, fun hk hbad => ?_⟩,
    fun hk => ?_, fun hk => ?_⟩
  · obtain ⟨scanned, hscanned⟩ : ∃ scanned, scanned = scanApplied (readClaim f.payload).key f.lane true a.counts
        (s.applied f a.table) := ⟨_, rfl⟩
    have harrival : scanned.arrival = s.arrival := by
      rw [hscanned, scanApplied_arrival]
      rfl
    have hwindow : scanned.rules.settleWindow = s.rules.settleWindow := by
      rw [hscanned, scanApplied_rules]
      rfl
    have hhandled : handleOwnClaim f (s.freed f) =
        assignOrdinal (readClaim f.payload).seq ((a.counts.map Prod.snd).getD 0) scanned := by
      rw [hscanned]
      exact handleOwnClaim_applied (s := s.freed f) ha
    rw [hclaim hk, hhandled]
    refine ⟨fun hnone => ?_, fun before it behind old n hc hitems hothers hit => ?_⟩
    · rw [assignOrdinal_none (harrival ▸ hnone), hscanned]
      rfl
    · have hassigned := assignOrdinal_served (harrival ▸ hitems) hothers hit n
      have hvalue : (a.counts.map Prod.snd).getD 0 = n := by
        rw [hc]
        rfl
      rw [hwindow] at hassigned
      rw [hvalue, hassigned]
      refine ⟨fun hd => ?_, fun hd => ?_⟩
      · rw [if_pos hd, hscanned]
        rfl
      · rw [if_neg (by omega), hscanned]
        rfl
  · have hhandled := handleOwnCorrection_applied (s := s.freed f) ha
    simp only [Correction.sentAs_eq] at hhandled
    rw [hcorrection hk, hhandled]
    simp only [decide_not]
    rfl
  · have hhandled := handleOwnAnswer_merged (s := s.freed f) ha
    simp only [Answer.sentAs_eq] at hhandled
    rw [hanswer hk, hhandled]
    simp only [decide_not]
    rfl
  · exact (hclaim hk).trans (congrArg (Host.Outcome.next ∘ refresh) (handleOwnClaim_error (s := s.freed f) hbad))
  · exact (hcorrection hk).trans (congrArg (Host.Outcome.next ∘ refresh) (handleOwnCorrection_error (s := s.freed f) hbad))
  · exact (hanswer hk).trans (congrArg (Host.Outcome.next ∘ refresh) (handleOwnAnswer_error (s := s.freed f) hbad))
  · refine congrArg Host.Outcome.next ((ownFrame_handled h hk).trans ?_)
    simp only [handleOwnInquiry, InquiryUnit.change_eq, beq_iff_eq, ite_and]
    rfl
  · refine congrArg Host.Outcome.next ((ownFrame_handled h hk).trans ?_)
    rw [handleOwnGreeting_eq, releaseHeld_eq]
    rfl
end

section
/-! Proofs about the end of a jam and the expiries of the timers. -/

namespace Sys2Proof.Machine

variable {s : State}

/-! ## Places in lists -/

theorem replace_of_append {α : Type} [BEq α] [LawfulBEq α] {before behind : List α} {x : α} (hx : x ∉ before) (y : α) :
    (before ++ x :: behind).replace x y = before ++ y :: behind := by
  rw [List.replace_append_right hx, List.replace_cons_self]

theorem erase_of_append {α : Type} [BEq α] [LawfulBEq α] {before behind : List α} {x : α} (hx : x ∉ before) :
    (before ++ x :: behind).erase x = before ++ behind := by
  rw [List.erase_append_right _ hx, List.erase_cons_head]

/-- Whether a pending correction is the one an entry names (R138, log 32). -/
theorem Correction.owner_beq (c : Correction) (l : Lane) (q : Byte) (m : Nat) :
    (c.owner == .correction l q m) = (c.claimLane == l && c.claimSeq == q && c.number == m) := by
  rw [Bool.eq_iff_iff]
  simp [Correction.owner, and_assoc]

theorem ownerOf_correction (u : ClaimSequencer) (l : Lane) (q : Byte) (m : Nat) : u.ownerOf (.correction l q m) =
    u.corrections.find? fun c => c.claimLane == l && c.claimSeq == q && c.number == m := by
  simp only [ClaimSequencer.ownerOf, Correction.owner_beq]

/-! ## The end of a jam (R146 to R148) -/

/-- The attempt over, its entry still to be dealt with (R146). -/
def State.jamOver (s : State) : State :=
  { s with access := { s.access with
    unit := .quiet, flight := none, readback := 0, readbackFault := false, wave := [], txElapsed := 0, jamLeft := 0 } }

/-- The entry in flight out of the transmit queue. -/
def State.withoutFlight (s : State) : State :=
  { s with access := { s.access with queue := s.access.queue.filter fun e => e.inFlight = false } }

theorem filter_waiting (queue : List TxEntry) :
    (queue.filter fun e => !e.inFlight) = queue.filter fun e => e.inFlight = false := by
  refine List.filter_congr fun e _ => ?_
  cases e.inFlight <;> rfl

section
variable (hon : s.station.powerGood = true) (hu : s.access.unit = .jamming)
include hon hu

theorem exec_jamEnd_none (h : s.access.inFlightEntry = none) : exec .jamEnd s = .next (refresh s.jamOver) := by
  refine congrArg Host.Outcome.next ?_
  unfold jamEnd
  rw [h]
  simp only [hon, hu, beq_self_eq_true, Bool.and_self, if_true]
  rfl

theorem exec_jamEnd_some {e : TxEntry} (h : s.access.inFlightEntry = some e) :
    exec .jamEnd s = .next (refresh (endAttempt e s.jamOver)) := by
  refine congrArg Host.Outcome.next ?_
  unfold jamEnd
  rw [h]
  simp only [hon, hu, beq_self_eq_true, Bool.and_self, if_true]
  rfl

end

theorem deadlinePassed_claim {tag : Byte} {it : Item} (hf : s.arrival.find tag = some it) :
    deadlinePassed (.claim tag) s = decide (it.deadline = 0) := by
  simp only [deadlinePassed, hf, Bool.beq_eq_decide_eq]

theorem deadlinePassed_other {o : Owner} (ho : ∀ tag, o ≠ .claim tag) : deadlinePassed o s = false := by
  cases o with
  | claim tag => exact absurd rfl (ho tag)
  | inquiry k => rfl
  | closedInquiry => rfl
  | answer l k => rfl
  | correction l q m => rfl
  | greeting => rfl

section
variable {e : TxEntry}

theorem endAttempt_claim_expired {tag : Byte} (ho : e.owner = .claim tag)
    (h : (e.noRetry || deadlinePassed e.owner s) = true) :
    endAttempt e s = decideItem tag .hold .deadline s.withoutFlight := by
  unfold endAttempt
  rw [h, ho, filter_waiting]
  rfl

theorem endAttempt_withdrawn (ho : ∀ tag, e.owner ≠ .claim tag) (h : e.noRetry = true) :
    endAttempt e s = s.withoutFlight := by
  unfold endAttempt
  rw [h, filter_waiting]
  cases he : e.owner with
  | claim tag => exact absurd he (ho tag)
  | inquiry k => rfl
  | closedInquiry => rfl
  | answer l k => rfl
  | correction l q m => rfl
  | greeting => rfl

theorem endAttempt_abandoned (h : (e.noRetry || deadlinePassed e.owner s) = false) (hlimit : 16 ≤ e.attempts) :
    endAttempt e s = abandon e.owner s.withoutFlight := by
  unfold endAttempt
  rw [h, filter_waiting]
  exact if_pos hlimit

theorem endAttempt_returned (h : (e.noRetry || deadlinePassed e.owner s) = false) (hlimit : e.attempts < 16) :
    endAttempt e s = returnEntry e.owner s := by
  unfold endAttempt
  rw [h]
  exact if_neg (Nat.not_le.2 hlimit)

end

/-- A collided frame's entry WAITING again (R146). -/
def State.entryBack (s : State) (o : Owner) : State :=
  { s with access := { s.access with
    queue := s.access.queue.map fun e => if e.owner = o then { e with inFlight := false } else e } }

theorem entryBack_eq (o : Owner) (s : State) :
    s.setAccess (s.access.changeEntries o fun e => { e with inFlight := false }) = s.entryBack o := by
  rw [LineAccess.changeEntries_eq]
  rfl

theorem returnEntry_of_claim (tag : Byte) (s : State) : returnEntry (.claim tag) s =
    { s.entryBack (.claim tag) with arrival := { s.arrival with
      items := s.arrival.items.map fun x => if x.tag = tag then { x with stage := .queued } else x } } := by
  simp only [returnEntry, entryBack_eq, changeItem, Arrival.change_eq]
  rfl

theorem returnEntry_of_inquiry (k : TitleKey) (s : State) : returnEntry (.inquiry k) s =
    { s.entryBack (.inquiry k) with inquiry := { s.inquiry with
      inquiries := s.inquiry.inquiries.map fun q => if q.key = k then { q with stage := .queued } else q } } := by
  simp only [returnEntry, entryBack_eq, InquiryUnit.change_eq]
  rfl

theorem returnEntry_other {o : Owner} (hc : ∀ tag, o ≠ .claim tag) (hi : ∀ k, o ≠ .inquiry k) (s : State) :
    returnEntry o s = s.entryBack o := by
  cases o with
  | claim tag => exact absurd rfl (hc tag)
  | inquiry k => exact absurd rfl (hi k)
  | closedInquiry => exact entryBack_eq _ s
  | answer l k => exact entryBack_eq _ s
  | correction l q m => exact entryBack_eq _ s
  | greeting => exact entryBack_eq _ s

theorem abandon_answer (l : Lane) (k : TitleKey) (s : State) : abandon (.answer l k) s = contention .answer (some k)
    { s with inquiry := { s.inquiry with
      answers := s.inquiry.answers.filter fun x => ¬ (x.inquirer = l ∧ x.key = k) } } := by
  have hanswers : (s.inquiry.answers.filter fun x => !(x.inquirer == l && x.key == k)) =
      s.inquiry.answers.filter fun x => ¬ (x.inquirer = l ∧ x.key = k) :=
    List.filter_congr fun x _ => by simp [Bool.beq_eq_decide_eq]
  rw [abandon, hanswers]
  rfl

theorem abandon_correction {l : Lane} {q : Byte} {m : Nat} {c : Correction}
    (hc : (s.claim.corrections.find? fun c => c.claimLane == l && c.claimSeq == q && c.number == m) = some c) :
    abandon (.correction l q m) s = contention .correction (some c.key)
      { s with claim := { s.claim with
        corrections := s.claim.corrections.filter fun x => ¬ (x.claimLane = l ∧ x.claimSeq = q ∧ x.number = m) } } := by
  have hcorrections : (s.claim.corrections.filter fun x => x.owner != .correction l q m) =
      s.claim.corrections.filter fun x => ¬ (x.claimLane = l ∧ x.claimSeq = q ∧ x.number = m) :=
    List.filter_congr fun x _ => by rw [bne, Correction.owner_beq]; simp [Bool.beq_eq_decide_eq, Bool.or_assoc]
  rw [abandon, ownerOf_correction, hc, hcorrections]
  rfl

end Sys2Proof.Machine

open Sys2Proof Sys2Proof.Machine

/-- Settles O49, by the mark, the attempts and the owner of the entry in flight. -/
theorem jamEnds : Obligations.JamEnds := by
  unfold Obligations.JamEnds
  intro s hon hu
  refine ⟨exec_jamEnd_none hon hu, fun e he => ?_⟩
  rw [exec_jamEnd_some hon hu he]
  have done {u v : State} (h : u = v) : Host.Outcome.next (refresh u) = (.next (refresh v) : Host.Outcome State Fault Refusal) :=
    congrArg (Host.Outcome.next ∘ refresh) h
  refine ⟨fun tag it ho hf => ⟨fun hexpired => ?_, fun hn hd h16 => ?_, fun hn hd h16 => ?_⟩, fun hn ho => ?_,
    fun hn h16 => ⟨fun k ho => ?_, fun hc hi => ?_⟩, fun hn h16 => ⟨fun ho => ?_, fun l k ho => ?_, fun l q m c ho hc => ?_, fun k ho => ?_⟩⟩
  · refine done (endAttempt_claim_expired (s := s.jamOver) ho ?_)
    rw [ho, deadlinePassed_claim (s := s.jamOver) hf]
    simpa using hexpired
  · refine done ((endAttempt_abandoned (s := s.jamOver) ?_ h16).trans (by rw [ho]; rfl))
    rw [ho, deadlinePassed_claim (s := s.jamOver) hf, hn]
    simp; omega
  · refine done ((endAttempt_returned (s := s.jamOver) ?_ h16).trans (by rw [ho]; exact returnEntry_of_claim tag _))
    rw [ho, deadlinePassed_claim (s := s.jamOver) hf, hn]
    simp; omega
  · exact done (endAttempt_withdrawn ho hn)
  · have hlive : (e.noRetry || deadlinePassed e.owner s.jamOver) = false := by rw [hn, ho]; rfl
    exact done ((endAttempt_returned hlive h16).trans (by rw [ho]; exact returnEntry_of_inquiry k _))
  · have hlive : (e.noRetry || deadlinePassed e.owner s.jamOver) = false := by rw [hn, deadlinePassed_other hc]; rfl
    exact done ((endAttempt_returned hlive h16).trans (returnEntry_other hc hi _))
  all_goals
    have hlive : (e.noRetry || deadlinePassed e.owner s.jamOver) = false := by rw [hn, ho]; rfl
    refine done ((endAttempt_abandoned hlive h16).trans ?_)
    rw [ho]
  · rfl
  · exact abandon_answer l k _
  · exact abandon_correction (s := s.jamOver.withoutFlight) hc
  · rfl

section
namespace Sys2Proof.Machine

/-! ## Claims queued one after another (R35, R139) -/

variable {s : State}

theorem placeOf_changeItem_stage (tag t : Byte) (stage : Stage) (s : State) :
    placeOf tag (changeItem t (fun it => { it with stage := stage }) s) = placeOf tag s := by
  have hfind (items : List Item) :
      ((items.map fun it => if it.tag == t then { it with stage := stage } else it).find? fun it => it.tag == tag).map
        Item.accepted = (items.find? fun it => it.tag == tag).map Item.accepted := by
    have htag (it : Item) : (if it.tag == t then { it with stage := stage } else it).tag = it.tag := by split <;> rfl
    have haccepted (it : Item) : (if it.tag == t then { it with stage := stage } else it).accepted = it.accepted := by
      split <;> rfl
    rw [List.find?_map, Option.map_map]
    simp only [Function.comp_def, htag, haccepted]
  exact congrArg (Option.getD · 0) (hfind s.arrival.items)

/-- What queueing the claims of several items leaves. -/
theorem foldl_queueClaim (tags : List Byte) : ∀ s : State,
    (tags.foldl (fun s t => queueClaim t s) s).arrival = { s.arrival with items := s.arrival.items.map fun it =>
        if it.tag ∈ tags then { it with stage := .queued } else it } ∧
      (tags.foldl (fun s t => queueClaim t s) s).access.queue = s.access.queue ++ tags.map fun tag =>
        { owner := .claim tag, place := ((s.arrival.find tag).map Item.accepted).getD 0 } := by
  induction tags with
  | nil =>
    intro s
    simp
  | cons t tags ih =>
    intro s
    obtain ⟨harrival, hqueue⟩ := ih (queueClaim t s)
    have hplace (tag : Byte) : (((queueClaim t s).arrival.find tag).map Item.accepted).getD 0 =
        ((s.arrival.find tag).map Item.accepted).getD 0 := placeOf_changeItem_stage tag t .queued s
    refine ⟨?_, ?_⟩
    · rw [List.foldl_cons, harrival]
      change Arrival.mk _ _ _ _ = Arrival.mk _ _ _ _
      congr 1
      change List.map _ (List.map _ s.arrival.items) = _
      rw [List.map_map]
      refine List.map_congr_left fun it _ => ?_
      by_cases ht : it.tag = t
      · by_cases hmem : it.tag ∈ tags <;> simp [ht]
      · simp [ht]
    · rw [List.foldl_cons, hqueue]
      simp only [hplace, List.map_cons]
      change (s.access.queue ++ [_]) ++ _ = _
      rw [List.append_assoc, List.singleton_append]
      exact congrArg (fun n => s.access.queue ++ ({ owner := .claim t, place := n } : TxEntry) :: _)
        (placeOf_changeItem_stage t t .queued s)

/-! ## The expiries -/

theorem foldl_queueClaim_keeps (tags : List Byte) : ∀ s : State,
    (tags.foldl (fun s t => queueClaim t s) s).inquiry = s.inquiry := by
  induction tags with
  | nil => exact fun _ => rfl
  | cons t tags ih => exact fun s => (ih (queueClaim t s)).trans (queueClaim_inquiry s t)

theorem makeCertain_eq {t : List Entry} {k : TitleKey} {e : Entry} (hf : findEntry t k = some e) :
    makeCertain t k = { e with certainty := .certain } :: t.filter fun x => x.key ≠ k := by
  have hkey := key_of_findEntry hf
  rw [makeCertain, hf]
  exact putFirst_of_key (e := { e with certainty := .certain }) hkey

theorem answerHoldOff_queued (l : Lane) (k : TitleKey) (answers : List Answer) :
    (answers.map fun x => if x.inquirer == l && x.key == k then { x with stage := .queued, holdOff := 0 } else x) =
      answers.map fun x => if x.inquirer = l ∧ x.key = k then { x with stage := .queued, holdOff := 0 } else x := by
  simp only [Bool.and_eq_true, beq_iff_eq]

theorem holdingFor_of_append {u : ClaimSequencer} {before behind : List Correction} {c : Correction} {l : Lane} {q : Byte}
    (hu : u.corrections = before ++ c :: behind) (hl : c.claimLane = l) (hq : c.claimSeq = q) (hc : c.stage = .holding)
    (hbefore : ∀ x ∈ before, ¬ (x.claimLane = l ∧ x.claimSeq = q ∧ x.stage = .holding)) : u.holdingFor l q = some c := by
  rw [ClaimSequencer.holdingFor, hu]
  exact find?_append_of_not (by simp [hl, hq, hc]) fun x hx => by simpa [and_assoc, Bool.and_assoc] using hbefore x hx

end Sys2Proof.Machine
end

/-- Settles O50, expiry by expiry. -/
theorem timersExpire : Obligations.TimersExpire := by
  unfold Obligations.TimersExpire
  intro s hon hst
  dsimp only
  refine ⟨fun k q e time hq hstage htime he => ?_, fun l k hx => ?_, fun l q before c behind hc hl hq hh hbefore => ?_,
    fun time hj htime => ?_⟩
  · have hexec : exec (.inquiryWindowExpiry k) s = .next (inquiryWindowExpiry k s) := congrArg Host.Outcome.next (powered_on hon)
    have hexpiry : inquiryWindowExpiry k s =
        refresh (closeToQueued k (s.setTally { s.tally with table := makeCertain s.tally.table k })) := by
      rw [inquiryWindowExpiry, hq]
      simp [hst, hstage, htime]
    have hclosed : closeToQueued k (s.setTally { s.tally with table := makeCertain s.tally.table k }) =
        q.waiting.foldl (fun s t => queueClaim t s)
          ((s.setTally { s.tally with table := makeCertain s.tally.table k }).setInquiry (s.inquiry.remove k)) := by
      rw [closeToQueued, show (s.setTally { s.tally with table := makeCertain s.tally.table k }).inquiry = s.inquiry from rfl, hq]
    obtain ⟨harrival, hqueue⟩ := foldl_queueClaim q.waiting
      ((s.setTally { s.tally with table := makeCertain s.tally.table k }).setInquiry (s.inquiry.remove k))
    refine ⟨_, hexec.trans (congrArg Host.Outcome.next hexpiry), ?_, ?_, ?_, ?_⟩
    · rw [refresh_tally, closeToQueued_tally, makeCertain_eq he]
      rfl
    · rw [refresh_inquiry, hclosed, foldl_queueClaim_keeps]
      exact InquiryUnit.remove_eq _ _
    · rw [refresh_arrival, hclosed, harrival]
      rfl
    · rw [refresh_queue, hclosed, hqueue]
      rfl
  · obtain ⟨x, hmem, hxl, hxk, hxs⟩ := hx
    have hexec : exec (.answerHoldOffExpiry l k) s = .next (answerHoldOffExpiry l k s) :=
      congrArg Host.Outcome.next (powered_on hon)
    have hany : (s.inquiry.answers.any fun x => x.inquirer == l && x.key == k && x.stage == .holding) = true :=
      List.any_eq_true.2 ⟨x, hmem, by simp [hxl, hxk, hxs]⟩
    rw [hexec, answerHoldOffExpiry, hst, hany, answerHoldOff_queued]
    rfl
  · have hexec : exec (.correctionHoldOffExpiry l q) s = .next (correctionHoldOffExpiry l q s) :=
      congrArg Host.Outcome.next (powered_on hon)
    have hnew : c ∉ before := fun hmem => hbefore c hmem ⟨hl, hq, hh⟩
    rw [hexec, correctionHoldOffExpiry, holdingFor_of_append hc hl hq hh hbefore]
    simp only [hc, erase_of_append hnew, replace_of_append hnew, hst, if_true, beq_iff_eq]
    refine ⟨fun hj => ?_, fun hj => ?_⟩
    · rw [if_pos hj]
      rfl
    · rw [if_neg hj, ← hl, ← hq]
      rfl
  · have hexec : exec .greetingRequeueExpiry s = .next (greetingRequeueExpiry s) := congrArg Host.Outcome.next (powered_on hon)
    rw [hexec, greetingRequeueExpiry, hj, htime]
    rfl
end

section
/-! Proofs about the end of an own frame: its level on the line, readback, completion and collision. -/

namespace Sys2Proof.Machine

variable {s : State} {fl : Flight}

/-! ## Readback (R134, R145) -/

theorem transmitting_of_sending (hu : s.access.unit = .sending) : transmitting s = true := by simp [transmitting, hu]

theorem readBackFault_sending (hu : s.access.unit = .sending) :
    readBackFault s = { s with access := { s.access with readbackFault := true } } := if_pos (by simp [hu])

section
variable (hon : s.station.powerGood = true) (hu : s.access.unit = .sending) (hr : s.station.state.receives = true)
  (hidle : s.line.receiver = .idle ∨ s.line.receiver = .inCharacter)
include hon hr hidle

theorem receiverHears_of_receiver : receiverHears s = true := by
  rcases hidle with h | h <;> simp [receiverHears, hon, hr, h]

include hu

theorem exec_character_sending (data : Byte) (mark noisy : Bool) :
    exec (if mark then .headerReceived data noisy else .payloadCharacterReceived data noisy) s =
      .next (readBack data mark noisy (lineIdle s)) := by
  have hhears := receiverHears_of_receiver hon hr hidle
  have hsending := transmitting_of_sending hu
  cases mark with
  | false =>
    refine congrArg Host.Outcome.next ?_
    simp only [payloadCharacterReceived, hhears, hsending, if_true]
  | true =>
    refine congrArg Host.Outcome.next ?_
    simp only [headerReceived, hhears, hsending, if_true]

theorem exec_dockFramingError_sending : exec .dockFramingError s = .next
    { s with line := { s.line with receiver := .idle, idle := 0 }, access := { s.access with readbackFault := true } } := by
  refine congrArg Host.Outcome.next ?_
  simp only [dockFramingError, receiverHears_of_receiver hon hr hidle, transmitting_of_sending hu, if_true]
  exact readBackFault_sending (s := lineIdle s) hu

theorem exec_lineBreak_sending : exec .lineBreak s = .next
    { s with line := { s.line with receiver := .inBreak, idle := 0 }, access := { s.access with readbackFault := true } } := by
  refine congrArg Host.Outcome.next ?_
  simp only [lineBreak, receiverHears_of_receiver hon hr hidle, transmitting_of_sending hu, if_true]
  exact readBackFault_sending (s := s.setLine { s.line with receiver := .inBreak, idle := 0 }) hu

end

/-- What a character read back while SENDING leaves (R145). -/
theorem readBack_sending (hu : s.access.unit = .sending) (hfl : s.access.flight = some fl) (data : Byte) (mark noisy : Bool) :
    readBack data mark noisy s = { s with access := { s.access with
      readback := s.access.readback + 1
      readbackFault := s.access.readbackFault || !((frameBytes fl.kind s.station.lane fl.payload)[s.access.readback]? == some data &&
        mark == (s.access.readback == 0) && !noisy) } } := by
  unfold readBack
  rw [hu, hfl]
  rfl

/-! ## Completion (R40, R59, R134, R143) -/

/-- An own frame that has ended whole: in the holder, its entry out of the queue. -/
def State.frameHeld (s : State) (fl : Flight) : State :=
  { s with
    line := { s.line with
      holder := some { kind := fl.kind, lane := s.station.lane, payload := fl.payload, order := s.line.nextOrder }
      nextOrder := s.line.nextOrder + 1, receiver := .idle, idle := 0 }
    access := { s.access with
      queue := s.access.queue.filter fun e => e.inFlight = false
      yield := true, unit := .quiet, flight := none, readback := 0, wave := [], txElapsed := 0 } }

/-- A frame read back clean, with its holder empty, completes (R145). -/
theorem completes (hon : s.station.powerGood = true) (hu : s.access.unit = .sending)
    (hfault : s.access.readbackFault = false) (hholder : s.line.holder = none) :
    (s.station.powerGood && s.access.unit == .sending && !s.access.readbackFault && s.line.holder.isNone) = true := by
  simp [hon, hu, hfault, hholder]

section
variable (hon : s.station.powerGood = true) (hu : s.access.unit = .sending) (hfl : s.access.flight = some fl)
  (hfault : s.access.readbackFault = false) (hholder : s.line.holder = none)
include hon hu hfl hfault hholder

theorem exec_ownFrameCompletion_claim {e : TxEntry} {tag : Byte} (he : s.access.inFlightEntry = some e)
    (ho : e.owner = .claim tag) : exec .ownFrameCompletion s = .next (refresh { s.frameHeld fl with
      arrival := { s.arrival with
        items := s.arrival.items.map fun it => if it.tag = tag then { it with completed := true } else it } }) := by
  refine congrArg Host.Outcome.next ?_
  have hbegins := completes hon hu hfault hholder
  unfold ownFrameCompletion
  rw [hfl]
  refine (if_pos hbegins).trans (congrArg refresh ?_)
  rw [he, Option.map_some, ho]
  dsimp only
  rw [changeItem, Arrival.change_eq, filter_waiting]
  rfl

theorem exec_ownFrameCompletion_other (ho : ∀ e tag, s.access.inFlightEntry = some e → e.owner ≠ .claim tag) :
    exec .ownFrameCompletion s = .next (refresh (s.frameHeld fl)) := by
  refine congrArg Host.Outcome.next ?_
  have hbegins := completes hon hu hfault hholder
  unfold ownFrameCompletion
  rw [hfl]
  dsimp only
  rw [filter_waiting]
  refine (if_pos hbegins).trans (congrArg refresh ?_)
  cases he : s.access.inFlightEntry with
  | none => rfl
  | some e =>
    rw [Option.map_some]
    cases hown : e.owner with
    | claim tag => exact absurd hown (ho e tag he)
    | inquiry k => rfl
    | closedInquiry => rfl
    | answer l k => rfl
    | correction l q m => rfl
    | greeting => rfl

end

/-! ## The bits of a frame on the line (R118, R124) -/

/-- The elements of equal runs laid end to end. -/
theorem flatMap_getElem? {α β : Type} {f : α → List β} {n : Nat} (hf : ∀ x, (f x).length = n) {j : Nat} (hj : j < n) :
    ∀ (l : List α) (i : Nat), (l.flatMap f)[n * i + j]? = l[i]?.bind fun x => (f x)[j]? := by
  intro l
  induction l with
  | nil => simp
  | cons x l ih =>
    intro i
    rw [List.flatMap_cons]
    cases i with
    | zero => rw [Nat.mul_zero, Nat.zero_add, List.getElem?_append_left (by rw [hf]; exact hj)]; rfl
    | succ i =>
      rw [List.getElem?_append_right (by rw [hf, Nat.mul_succ]; omega), hf, Nat.mul_succ,
        show n * i + n + j - n = n * i + j by omega, ih i, List.getElem?_cons_succ]

theorem sentBits_getElem? {chars : List Byte} {i j : Nat} {d : Byte} (hd : chars[i]? = some d) (hj : j < 11) :
    (sentBits chars)[11 * i + j]? = (characterBits d (i == 0))[j]? := by
  cases chars with
  | nil => simp at hd
  | cons head tail =>
    rw [sentBits]
    cases i with
    | zero =>
      obtain rfl : head = d := by simpa using hd
      rw [Nat.mul_zero, Nat.zero_add, List.getElem?_append_left (by simpa using hj)]
      rfl
    | succ i =>
      have htail := flatMap_getElem? (f := fun d => characterBits d false) (fun _ => characterBits_length _ _) hj tail i
      rw [List.getElem?_cons_succ] at hd
      rw [List.getElem?_append_right (by simp; omega), characterBits_length, Nat.mul_succ,
        show 11 * i + 11 + j - 11 = 11 * i + j by omega, htail, hd]
      rfl

theorem frameBits_length {kind : FrameKind} {payload : List Byte} (hp : payload.length = kind.payloadLength) (lane : Lane) :
    (frameBits kind lane payload).length = 11 * kind.frameLength := by
  rw [frameBits, sentBits_length, frameBytes_eq, List.length_cons, frameTail_length, hp]
  rfl

/-! ## Collision (R124, R145, R146) -/

theorem exec_collision (hon : s.station.powerGood = true) (hu : s.access.unit = .sending) :
    exec .collision s = .next (s.setAccess { s.access.jam s.station.rate with
      queue := s.access.queue.map fun e => if e.inFlight then { e with attempts := e.attempts + 1 } else e }) := by
  refine congrArg Host.Outcome.next ?_
  unfold collision
  rw [if_pos (by simp [hon, hu])]

theorem bitsBeforeJam_inside {rate : BitVec 2} {wave : List Bool} {elapsed : Nat}
    (h : 11 * (elapsed / (11 * bitPeriods rate)) < wave.length) :
    bitsBeforeJam rate wave elapsed = 11 * (elapsed / (11 * bitPeriods rate) + 1) := if_pos h

/-- After the last character no rest is left (log 19). -/
theorem bitsBeforeJam_after {rate : BitVec 2} {wave : List Bool} {n : Nat} (h : wave.length = 11 * n) :
    bitsBeforeJam rate wave (11 * n * bitPeriods rate) = 11 * n := by
  have hbit := bitPeriods_ge rate
  have hcharacter : 11 * n * bitPeriods rate / (11 * bitPeriods rate) = n := by
    rw [show 11 * n * bitPeriods rate = n * (11 * bitPeriods rate) by ring]
    exact Nat.mul_div_cancel n (by omega)
  have hbits : (11 * n * bitPeriods rate + bitPeriods rate - 1) / bitPeriods rate = 11 * n := by
    rw [Nat.add_sub_assoc (by omega), Nat.add_comm, Nat.add_mul_div_right _ _ (by omega), Nat.div_eq_of_lt (by omega), Nat.zero_add]
  have hnot : ¬ 11 * (11 * n * bitPeriods rate / (11 * bitPeriods rate)) < wave.length := by
    rw [hcharacter]
    omega
  exact (if_neg hnot).trans hbits

/-- The state after a collision, its transmitter at another time. -/
def State.jammedAt (s : State) (n : Nat) : State :=
  { s with access := { s.access.jam s.station.rate with
    queue := s.access.queue.map fun e => if e.inFlight then { e with attempts := e.attempts + 1 } else e
    txElapsed := n } }

section
variable (hon : s.station.powerGood = true) {n : Nat}
include hon

theorem dockLevel_jammedAt : dockLevel (s.jammedAt n) =
    (jammedWave s.station.rate s.access.wave s.access.txElapsed).getD (n / bitPeriods s.station.rate) true :=
  dockLevel_busy (s := s.jammedAt n) hon (.inr rfl)

/-- Up to the end of the character in progress the line stands as it was. -/
theorem jammed_before (hu : s.access.unit = .sending)
    (hn : n < bitsBeforeJam s.station.rate s.access.wave s.access.txElapsed * bitPeriods s.station.rate) :
    dockLevel (s.jammedAt n) = dockLevel { s with access := { s.access with txElapsed := n } } := by
  have hbit : 0 < bitPeriods s.station.rate := Nat.lt_of_lt_of_le (by omega) (bitPeriods_ge _)
  rw [dockLevel_jammedAt hon, dockLevel_busy (s := { s with access := { s.access with txElapsed := n } }) hon (.inl hu),
    jammedWave_before _ _ _ _ ((Nat.div_lt_iff_lt_mul hbit).2 hn)]
  rfl

/-- From there on it is low for 14 bit times and then released. -/
theorem jammed_from (hn : bitsBeforeJam s.station.rate s.access.wave s.access.txElapsed * bitPeriods s.station.rate ≤ n) :
    dockLevel (s.jammedAt n) = false ↔
      n < (bitsBeforeJam s.station.rate s.access.wave s.access.txElapsed + 14) * bitPeriods s.station.rate := by
  have hbit : 0 < bitPeriods s.station.rate := Nat.lt_of_lt_of_le (by omega) (bitPeriods_ge _)
  obtain ⟨i, hi⟩ := Nat.exists_eq_add_of_le ((Nat.le_div_iff_mul_le hbit).2 hn)
  rw [dockLevel_jammedAt hon, hi, jammedWave_from, decide_eq_false_iff_not, ← Nat.div_lt_iff_lt_mul hbit, hi]
  omega

end

end Sys2Proof.Machine

open Sys2Proof Sys2Proof.Machine

/-- Settles O48: readback, completion, and what a collision leaves of the wave. -/
theorem ownFrameEnds : Obligations.OwnFrameEnds := by
  unfold Obligations.OwnFrameEnds
  intro s fl hon hu hfl
  dsimp only
  refine ⟨fun data mark noisy hr hidle => ?_, fun hr hidle => ⟨exec_dockFramingError_sending hon hu hr hidle,
      exec_lineBreak_sending hon hu hr hidle⟩, fun hfault hholder => ⟨fun e tag he ho =>
        exec_ownFrameCompletion_claim hon hu hfl hfault hholder he ho,
      exec_ownFrameCompletion_other hon hu hfl hfault hholder⟩, fun hp hwave => ⟨fun i j n d hd hj hn => ?_, ?_⟩,
    fun t => dockLevel_rest⟩
  · refine ⟨_, ?_, (exec_character_sending hon hu hr hidle data mark noisy).trans
      (congrArg Host.Outcome.next (readBack_sending (s := lineIdle s) hu hfl data mark noisy))⟩
    have hmark : (mark == (s.access.readback == 0)) = true ↔ (mark = true ↔ s.access.readback = 0) := by
      cases mark <;> simp
    change (s.access.readbackFault || !(_ == some data && mark == (s.access.readback == 0) && !noisy)) = true ↔ _
    rw [Bool.or_eq_true, Bool.not_eq_true', Bool.eq_false_iff, ne_eq, Bool.and_eq_true, Bool.and_eq_true, hmark, beq_iff_eq,
      Bool.not_eq_true', and_assoc]
    rfl
  · have hbit : sentBits (frameBytes fl.kind s.station.lane fl.payload) = s.access.wave := hwave.symm
    have hget := sentBits_getElem? hd hj
    rw [hbit] at hget
    rw [dockLevel_busy (s := { s with access := { s.access with
        txElapsed := (11 * i + j) * bitPeriods s.station.rate + n } }) hon (.inl hu)]
    change some (levelAt (bitPeriods s.station.rate) s.access.wave ((11 * i + j) * bitPeriods s.station.rate + n)) = _
    rw [Nat.mul_comm (11 * i + j), levelAt_bit _ _ hn, List.getD, hget,
      List.getElem?_eq_getElem (by simpa using hj)]
    rfl
  · have hbits := frameBits_length hp s.station.lane
    rw [← hwave] at hbits
    refine ⟨_, exec_collision hon hu, rfl, fun hinside => ?_, fun hafter => ?_⟩
    · have hjam : bitsBeforeJam s.station.rate s.access.wave s.access.txElapsed =
          11 * (s.access.txElapsed / (11 * bitPeriods s.station.rate) + 1) := bitsBeforeJam_inside (by omega)
      refine ⟨?_, fun n hn => ?_, fun n hn => ?_⟩
      · exact (LineAccess.jam_jamLeft ..).trans (by rw [hjam])
      · exact jammed_before hon hu (hjam ▸ hn)
      · exact (jammed_from hon (hjam ▸ hn)).trans (by rw [hjam])
    · refine (LineAccess.jam_jamLeft ..).trans ?_
      rw [hafter, bitsBeforeJam_after hbits, Nat.add_mul, Nat.add_sub_cancel_left]
end

section
/-! Proofs about the start of an attempt: the candidate, the frame its owner builds, and a refused build. -/

namespace Sys2Proof.Machine

variable {s : State}

/-! ## The candidate (R140) -/

/-- In the selection order `b` does not go before `a`. -/
theorem not_before_iff (a b : TxEntry) : b.before a = false ↔ ¬ (b.owner.selectionClass < a.owner.selectionClass ∨
    b.owner.selectionClass = a.owner.selectionClass ∧ b.place < a.place) := by
  simp [TxEntry.before]

theorem firstOf_eq_none_iff {l : List TxEntry} : firstOf l = none ↔ l = [] := by
  cases l with
  | nil => simp [firstOf]
  | cons e rest =>
    refine ⟨fun h => ?_, nofun⟩
    unfold firstOf at h
    split at h
    · cases h
    · split at h <;> cases h

/-- No entry goes before the first. -/
theorem firstOf_first : ∀ {l : List TxEntry} {e : TxEntry}, firstOf l = some e → ∀ x ∈ l, x.before e = false := by
  intro l
  induction l with
  | nil => exact fun h => by cases h
  | cons e rest ih =>
    intro a h x hx
    have self (y : TxEntry) : y.before y = false := by simp [TxEntry.before]
    unfold firstOf at h
    split at h
    · rename_i hnone
      cases h
      obtain rfl : rest = [] := firstOf_eq_none_iff.1 hnone
      obtain rfl : x = e := by simpa using hx
      exact self x
    · rename_i f hf
      split at h
      · rename_i hbefore
        cases h
        rcases List.mem_cons.1 hx with rfl | hx
        · rw [not_before_iff]
          have hfirst : ¬ a.before x = false := by simp [hbefore]
          rw [not_before_iff] at hfirst
          omega
        · exact ih hf x hx
      · rename_i hbefore
        cases h
        rcases List.mem_cons.1 hx with rfl | hx
        · exact self x
        · have hrest := ih hf x hx
          rw [Bool.not_eq_true, not_before_iff] at hbefore
          rw [not_before_iff] at hrest ⊢
          omega

theorem candidate_first {a : LineAccess} {e : TxEntry} (h : a.candidate = some e) :
    ∀ x ∈ a.queue, x.inFlight = false → ¬ (x.owner.selectionClass < e.owner.selectionClass ∨
      x.owner.selectionClass = e.owner.selectionClass ∧ x.place < e.place) := fun x hx hwaiting =>
  (not_before_iff e x).1 (firstOf_first h x (List.mem_filter.2 ⟨hx, by simpa using hwaiting⟩))

theorem candidate_eq_none_iff {a : LineAccess} : a.candidate = none ↔ ∀ x ∈ a.queue, x.inFlight = true := by
  rw [LineAccess.candidate, firstOf_eq_none_iff, List.filter_eq_nil_iff]
  simp

/-! ## When an attempt begins (R141) -/

/-- An attempt begins at a boundary at which the line has been idle for `n` bit times, in the words of R141. -/
def State.begins (n : Nat) (t : State) : Prop :=
  ∃ x, t.access.candidate = some x ∧ t.station.powerGood = true ∧ t.station.state.transmits = true ∧
    t.access.unit = .deferring ∧ t.line.holder = none ∧ t.line.receiver = .idle ∧
    deferral t.station.lane t.access.yield x.attempts ≤ n

theorem begins_iff {n : Nat} : s.begins n ↔ ∃ x, readyCandidate n s = some x := by
  constructor
  · rintro ⟨x, hc, hp, ht, hu, hh, hr, hd⟩
    exact ⟨x, by simp [readyCandidate, mayBegin, hc, hp, ht, hu, hh, hr, hd]⟩
  · rintro ⟨x, hx⟩
    obtain ⟨hp, ht, hu, hh, hr, hc, hd⟩ := readyCandidate_spec hx
    exact ⟨x, hc, hp, ht, hu, hh, hr, hd⟩

theorem readyCandidate_of_begins {n : Nat} {e : TxEntry} (h : s.begins n) (hc : s.access.candidate = some e) :
    readyCandidate n s = some e := by
  obtain ⟨x, hx⟩ := begins_iff.1 h
  obtain ⟨-, -, -, -, -, hcx, -⟩ := readyCandidate_spec hx
  rw [hx, ← hcx, hc]

theorem readyCandidate_of_not_begins {n : Nat} (h : ¬ s.begins n) : readyCandidate n s = none :=
  Option.eq_none_iff_forall_ne_some.2 fun x hx => h (begins_iff.2 ⟨x, hx⟩)

theorem exec_attemptStart_not {n : Nat} (h : ¬ s.begins n) : exec (.attemptStart n) s = .next s := by
  refine congrArg Host.Outcome.next ?_
  rw [attemptStart, readyCandidate_of_not_begins h]

theorem exec_attemptStart_begins {n : Nat} (h : s.begins n) :
    exec (.attemptStart n) s = .next (refresh (attempts s.access.queue.length n s)) := by
  obtain ⟨x, hx⟩ := begins_iff.1 h
  refine congrArg Host.Outcome.next ?_
  rw [attemptStart, hx]

/-- A station that does not transmit begins no attempt. -/
theorem not_begins_of_still {n : Nat} (h : s.station.state.transmits = false) : ¬ s.begins n := by
  rintro ⟨x, -, -, ht, -⟩
  rw [h] at ht
  cases ht

/-! ## A refused build lets the next candidate be considered (R141) -/

theorem attempts_of_not_begins {n : Nat} (h : ¬ s.begins n) (fuel : Nat) : attempts fuel n s = s := by
  cases fuel with
  | zero => rfl
  | succ fuel => rw [attempts, readyCandidate_of_not_begins h]

theorem length_removeEntry_lt {a : LineAccess} {e : TxEntry} (h : e ∈ a.queue) :
    (a.removeEntry e.owner).queue.length < a.queue.length :=
  List.length_filter_lt_length_iff_exists.2 ⟨e, h, by simp⟩

theorem memoryFault_still (h : s.station.state.transmits = true) (k : TitleKey) :
    (memoryFault k s).station.state.transmits = false := by
  have hs : s.station.state ≠ .strapFault := fun hs => by rw [hs] at h; cases h
  rw [(memoryFault_halts hs k).1]
  rfl

/-- What a refused build leaves: the owner's entry out of the queue, or a station that does not transmit. -/
def Build.progress (s : State) (o : Owner) : Build → Prop
  | .frame _ _ _ => True
  | .refusedBuild left => left.access = s.access.removeEntry o ∨ left.station.state.transmits = false

section
variable (ht : s.station.state.transmits = true)
include ht

theorem buildClaim_progress (tag : Byte) : (buildClaim tag s).progress s (.claim tag) := by
  unfold buildClaim
  dsimp only
  split
  · exact .inl rfl
  · split
    · exact .inr (memoryFault_still (s := s.setAccess (s.access.removeEntry (.claim tag))) ht _)
    · split
      · exact trivial
      · split
        · exact .inl (decideItem_access ..)
        · exact trivial

theorem buildAnswer_progress (l : Lane) (k : TitleKey) : (buildAnswer l k s).progress s (.answer l k) := by
  unfold buildAnswer
  dsimp only
  split
  · exact .inr (memoryFault_still (s := s.setAccess (s.access.removeEntry (.answer l k))) ht _)
  · split
    · exact .inl rfl
    · split
      · exact .inl rfl
      · exact trivial

theorem buildFrame_progress (o : Owner) : (buildFrame o s).progress s o := by
  cases o with
  | claim tag => exact buildClaim_progress ht tag
  | inquiry k => exact trivial
  | closedInquiry => exact .inl rfl
  | answer l k => exact buildAnswer_progress ht l k
  | correction l q m =>
    change (buildCorrection _ s).progress s _
    unfold buildCorrection
    split
    · exact .inl rfl
    · exact trivial
  | greeting => exact trivial

theorem refusedBuild_progress {e : TxEntry} {left : State} (he : e ∈ s.access.queue)
    (h : buildFrame e.owner s = .refusedBuild left) :
    left.access.queue.length < s.access.queue.length ∨ left.station.state.transmits = false := by
  have hprogress := buildFrame_progress ht e.owner
  rw [h] at hprogress
  rcases hprogress with hgone | hstill
  · rw [hgone]
    exact .inl (length_removeEntry_lt he)
  · exact .inr hstill

end

/-- Fuel for as many attempts as there are entries is enough. -/
theorem attempts_fuel {n : Nat} : ∀ (f₁ f₂ : Nat) {s : State}, s.access.queue.length ≤ f₁ → s.access.queue.length ≤ f₂ →
    attempts f₁ n s = attempts f₂ n s := by
  have empty {s : State} (h : s.access.queue.length ≤ 0) : ¬ s.begins n := by
    rintro ⟨x, hc, -⟩
    have := (not_mem_flights_of_candidate hc).1
    rw [List.length_eq_zero_iff.1 (Nat.le_zero.1 h)] at this
    cases this
  intro f₁
  induction f₁ with
  | zero => exact fun f₂ s h _ => by rw [attempts_of_not_begins (empty h), attempts_of_not_begins (empty h)]
  | succ f₁ ih =>
    intro f₂ s h₁ h₂
    by_cases hb : s.begins n
    · cases f₂ with
      | zero => exact absurd hb (empty h₂)
      | succ f₂ =>
        obtain ⟨e, he⟩ := begins_iff.1 hb
        obtain ⟨-, ht, -, -, -, hc, -⟩ := readyCandidate_spec he
        rw [attempts, attempts, he]
        dsimp only
        cases hbuild : buildFrame e.owner s with
        | frame kind payload built => rfl
        | refusedBuild left =>
          dsimp only
          rcases refusedBuild_progress ht (not_mem_flights_of_candidate hc).1 hbuild with hless | hstill
          · exact ih f₂ (by omega) (by omega)
          · rw [attempts_of_not_begins (not_begins_of_still hstill), attempts_of_not_begins (not_begins_of_still hstill)]
    · rw [attempts_of_not_begins hb, attempts_of_not_begins hb]

section
variable {n : Nat} {e : TxEntry} (hb : s.begins n) (hc : s.access.candidate = some e)
include hb hc

theorem exec_attemptStart_frame {kind : FrameKind} {payload : List Byte} {built : State}
    (h : buildFrame e.owner s = .frame kind payload built) :
    exec (.attemptStart n) s = .next (refresh (beginSending e kind payload built)) := by
  obtain ⟨m, hm⟩ := Nat.exists_eq_succ_of_ne_zero
    (Nat.ne_of_gt (List.length_pos_of_mem (not_mem_flights_of_candidate hc).1))
  rw [exec_attemptStart_begins hb, hm, attempts, readyCandidate_of_begins hb hc]
  dsimp only
  rw [h]

/-- What a refused build leaves is considered again, at the same boundary. -/
theorem exec_attemptStart_refused {left : State} (h : buildFrame e.owner s = .refusedBuild left) :
    (left.begins n → exec (.attemptStart n) s = exec (.attemptStart n) left) ∧
      (¬ left.begins n → exec (.attemptStart n) s = .next (refresh left)) := by
  have hmem := (not_mem_flights_of_candidate hc).1
  obtain ⟨-, ht, -⟩ := readyCandidate_spec (readyCandidate_of_begins hb hc)
  obtain ⟨m, hm⟩ := Nat.exists_eq_succ_of_ne_zero (Nat.ne_of_gt (List.length_pos_of_mem hmem))
  have hexec : exec (.attemptStart n) s = .next (refresh (attempts m n left)) := by
    rw [exec_attemptStart_begins hb, hm, attempts, readyCandidate_of_begins hb hc]
    dsimp only
    rw [h]
  rw [hexec]
  refine ⟨fun hleft => ?_, fun hleft => by rw [attempts_of_not_begins hleft]⟩
  rw [exec_attemptStart_begins hleft]
  rcases refusedBuild_progress ht hmem h with hless | hstill
  · rw [attempts_fuel m left.access.queue.length (by omega) (Nat.le_refl _)]
  · exact absurd hleft (not_begins_of_still hstill)

end

end Sys2Proof.Machine

open Sys2Proof Sys2Proof.Machine

end

section
/-! Proofs about the frames that the owners build at the start of an attempt. -/

namespace Sys2Proof.Machine

variable {s : State}

/-- The state without an owner's entries in the transmit queue. -/
def State.entryGone (s : State) (o : Owner) : State :=
  { s with access := { s.access with queue := s.access.queue.filter fun x => x.owner ≠ o } }

theorem entryGone_eq (o : Owner) (s : State) : s.setAccess (s.access.removeEntry o) = s.entryGone o := by
  rw [LineAccess.removeEntry_eq]
  rfl

/-- An entry touched, the first of the table (R2). -/
def State.touched (s : State) (x : Entry) (k : TitleKey) : State :=
  { s with tally := { s.tally with table := x :: s.tally.table.filter fun y => y.key ≠ k } }

theorem touchEntry_found {t : List Entry} {k : TitleKey} {x : Entry} (hf : findEntry t k = some x)
    (hp : x.parityOk = true) : touchEntry t k = .ok (x :: t.filter fun y => y.key ≠ k, some x) := by
  rw [touchEntry, hf]
  simp only [hp, Bool.not_true, Bool.false_eq_true, if_false, putFirst_of_key (key_of_findEntry hf)]

theorem touchEntry_absent {t : List Entry} {k : TitleKey} (hf : findEntry t k = none) : touchEntry t k = .ok (t, none) := by
  rw [touchEntry, hf]

/-- A frame built is handed to the transmitter. -/
theorem exec_attemptStart_sends {n : Nat} {e : TxEntry} (hb : s.begins n) (hc : s.access.candidate = some e)
    {kind : FrameKind} {payload : List Byte} {t : State} (h : buildFrame e.owner s = .frame kind payload t)
    (haccess : t.access = s.access) (hstation : t.station = s.station) {before behind : List TxEntry}
    (hqueue : s.access.queue = before ++ e :: behind) (he : e ∉ before) :
    exec (.attemptStart n) s = .next (refresh { t with access := { s.access with
      queue := before ++ { e with inFlight := true } :: behind
      yield := false, unit := .sending, flight := some { kind := kind, payload := payload }, readback := 0
      readbackFault := false, wave := frameBits kind s.station.lane payload, txElapsed := 0 } }) := by
  have hlane : t.station.lane = s.station.lane := by rw [hstation]
  rw [exec_attemptStart_frame hb hc h, beginSending, haccess, hlane, hqueue, replace_of_append he]
  rfl

/-- A parity error at a build halts the station, and no further candidate is considered. -/
theorem exec_attemptStart_halts {n : Nat} {e : TxEntry} (hb : s.begins n) (hc : s.access.candidate = some e)
    {k : TitleKey} (h : buildFrame e.owner s = .refusedBuild (memoryFault k (s.entryGone e.owner))) :
    exec (.attemptStart n) s = .next (refresh (memoryFault k (s.entryGone e.owner))) := by
  obtain ⟨-, ht, -⟩ := readyCandidate_spec (readyCandidate_of_begins hb hc)
  exact (exec_attemptStart_refused hb hc h).2 (not_begins_of_still (memoryFault_still (s := s.entryGone e.owner) ht k))

/-! ## An ANSWER (R96) -/

section
variable {l : Lane} {k : TitleKey}

/-- A pending answer dropped. -/
def State.answerDropped (s : State) (l : Lane) (k : TitleKey) : State :=
  { s with inquiry := { s.inquiry with answers := s.inquiry.answers.filter fun a => ¬ (a.inquirer = l ∧ a.key = k) } }

theorem answerDropped_eq (l : Lane) (k : TitleKey) (s : State) : s.setInquiry { s.inquiry with
    answers := s.inquiry.answers.filter fun x => !(x.inquirer == l && x.key == k) } = s.answerDropped l k := by
  have hanswers : (s.inquiry.answers.filter fun x => !(x.inquirer == l && x.key == k)) =
      s.inquiry.answers.filter fun a => ¬ (a.inquirer = l ∧ a.key = k) :=
    List.filter_congr fun x _ => by simp [Bool.beq_eq_decide_eq]
  rw [hanswers]
  rfl

theorem buildAnswer_spoilt {x : Entry} (hf : findEntry s.tally.table k = some x) (hp : x.parityOk = false) :
    buildAnswer l k s = .refusedBuild (memoryFault x.key (s.entryGone (.answer l k))) := by
  rw [buildAnswer, touchEntry_spoilt hf hp, entryGone_eq]

theorem buildAnswer_absent (hf : findEntry s.tally.table k = none) :
    buildAnswer l k s = .refusedBuild ((s.entryGone (.answer l k)).answerDropped l k) := by
  rw [buildAnswer, touchEntry_absent hf, entryGone_eq]
  dsimp only
  rw [answerDropped_eq]

theorem buildAnswer_zero {x : Entry} (hf : findEntry s.tally.table k = some x) (hp : x.parityOk = true) (h0 : x.count = 0) :
    buildAnswer l k s = .refusedBuild (((s.entryGone (.answer l k)).touched x k).answerDropped l k) := by
  rw [buildAnswer, touchEntry_found hf hp, entryGone_eq]
  dsimp only
  rw [if_pos h0, answerDropped_eq]
  rfl

theorem buildAnswer_sends {x : Entry} (hf : findEntry s.tally.table k = some x) (hp : x.parityOk = true) (h1 : 1 ≤ x.count) :
    buildAnswer l k s = .frame .answer (answerPayload l k x.count x.refMass) { s.touched x k with
      inquiry := { s.inquiry with answers := s.inquiry.answers.map fun a =>
        if a.inquirer = l ∧ a.key = k then { a with stage := .sending } else a } } := by
  rw [buildAnswer, touchEntry_found hf hp]
  dsimp only
  rw [if_neg (by omega)]
  simp only [Bool.and_eq_true, beq_iff_eq]
  rfl

end

/-! ## A CORRECTION (R56, R70) -/

theorem buildCorrection_sends {l : Lane} {q : Byte} {m : Nat} {c : Correction}
    (hc : (s.claim.corrections.find? fun c => c.claimLane == l && c.claimSeq == q && c.number == m) = some c) :
    buildCorrection (.correction l q m) s =
      .frame .correction (correctionPayload (c.drawn.getD (s.claim.ownSeq + 1)) l q c.key c.value)
        { s with claim := { s.claim with
          ownSeq := if c.drawn = none then s.claim.ownSeq + 1 else s.claim.ownSeq
          corrections := s.claim.corrections.map fun x => if x.claimLane = l ∧ x.claimSeq = q ∧ x.number = m then
            { x with stage := .sending, drawn := some (c.drawn.getD (s.claim.ownSeq + 1)) } else x } } := by
  have hnamed := List.find?_some hc
  simp only [Bool.and_eq_true, beq_iff_eq] at hnamed
  obtain ⟨⟨hl, hq⟩, -⟩ := hnamed
  rw [buildCorrection, ownerOf_correction, hc]
  simp only [Correction.owner_beq, Bool.and_eq_true, beq_iff_eq, and_assoc, hl, hq]
  cases hdrawn : c.drawn with
  | none => rfl
  | some own => rfl

/-! ## A CLAIM (R37, R38, R58, R110) -/

/-- A record of the arrival queue changed, in the words of R27. -/
def State.changed (s : State) (tag : Byte) (f : Item → Item) : State :=
  { s with arrival := { s.arrival with items := s.arrival.items.map fun y => if y.tag = tag then f y else y } }

theorem changeItem_eq (tag : Byte) (f : Item → Item) (s : State) : changeItem tag f s = s.changed tag f := by
  rw [changeItem, Arrival.change_eq]
  rfl

theorem changed_changed {tag : Byte} {f g : Item → Item} (hf : ∀ y, (f y).tag = y.tag) (s : State) :
    (s.changed tag f).changed tag g = s.changed tag (g ∘ f) := by
  have hitems : (s.arrival.items.map fun y => if y.tag = tag then f y else y).map (fun y => if y.tag = tag then g y else y) =
      s.arrival.items.map fun y => if y.tag = tag then (g ∘ f) y else y := by
    rw [List.map_map]
    refine List.map_congr_left fun y _ => ?_
    by_cases hy : y.tag = tag <;> simp [hy, hf]
  simp only [State.changed, hitems]

section
variable {tag : Byte} {it : Item} {x : Entry} (hi : s.arrival.find tag = some it)
  (hf : findEntry s.tally.table it.key = some x)
include hi hf

theorem buildClaim_spoilt (hp : x.parityOk = false) :
    buildClaim tag s = .refusedBuild (memoryFault x.key (s.entryGone (.claim tag))) := by
  rw [buildClaim, hi]
  dsimp only
  rw [touchEntry_spoilt hf hp, entryGone_eq]

variable (hp : x.parityOk = true)
include hp

theorem buildClaim_again {q : Byte} (hq : it.claimSeq = some q) :
    buildClaim tag s = .frame .claim (claimPayload q it.key x.count it.mass.usableGrams)
      ((s.touched x it.key).changed tag fun y => { y with stage := .onLine }) := by
  rw [buildClaim, hi]
  dsimp only
  rw [touchEntry_found hf hp, hq]
  dsimp only
  rw [changeItem_eq]
  rfl

theorem buildClaim_mismatch (hq : it.claimSeq = none)
    (hcheck : massCheck (s.rules.classAt it.cls) x.count x.refMass it.mass = .mismatch) :
    buildClaim tag s = .refusedBuild (decideItem tag .hold .mass (((s.entryGone (.claim tag)).touched x it.key).changed tag
      fun y => { y with massCheck := massCheck (s.rules.classAt it.cls) x.count x.refMass it.mass })) := by
  rw [buildClaim, hi]
  dsimp only
  rw [touchEntry_found hf hp, hq]
  dsimp only [Option.map_some, Option.getD_some, Option.bind_some]
  rw [if_pos (by simpa using hcheck), changeItem_eq, LineAccess.removeEntry_eq]
  rfl

theorem buildClaim_first (hq : it.claimSeq = none)
    (hcheck : massCheck (s.rules.classAt it.cls) x.count x.refMass it.mass ≠ .mismatch) :
    buildClaim tag s = .frame .claim (claimPayload (s.claim.ownSeq + 1) it.key x.count it.mass.usableGrams)
      (State.changed { s.touched x it.key with claim := { s.claim with ownSeq := s.claim.ownSeq + 1 } } tag fun y => { y with
        massCheck := massCheck (s.rules.classAt it.cls) x.count x.refMass it.mass, stage := .onLine
        claimSeq := some (s.claim.ownSeq + 1) }) := by
  rw [buildClaim, hi]
  dsimp only
  rw [touchEntry_found hf hp, hq]
  dsimp only [Option.map_some, Option.getD_some, Option.bind_some]
  rw [if_neg (by simpa using hcheck), changeItem_eq, changeItem_eq]
  have hboth := changed_changed (s := { s.touched x it.key with claim := { s.claim with ownSeq := s.claim.ownSeq + 1 } }) (tag := tag)
    (f := fun y => { y with massCheck := massCheck (s.rules.classAt it.cls) x.count x.refMass it.mass })
    (g := fun y => { y with stage := .onLine, claimSeq := some (s.claim.ownSeq + 1) }) fun _ => rfl
  exact congrArg (Build.frame .claim _) hboth

end

end Sys2Proof.Machine

open Sys2Proof Sys2Proof.Machine

/-- Settles O47: the candidate, the conditions of R141, and the build of each owner. -/
theorem attemptStarts : Obligations.AttemptStarts := by
  unfold Obligations.AttemptStarts
  intro s n
  dsimp only
  refine ⟨fun e he => ?_, candidate_eq_none_iff, fun hnone => exec_attemptStart_not ?_, fun e hc => ⟨fun hnot => ?_,
    fun hb ho before behind hq he => ?_, fun k hb ho before behind hq he => ?_, fun l k hb ho => ⟨fun x hf hp => ⟨fun h1 before behind hq he => ?_,
      fun h0 => ?_⟩, fun hf => ?_, fun x hf hp => ?_⟩, fun l q m c hb ho hown before behind hq he => ?_,
    fun tag it x hb ho hi hf => ⟨fun hp => ?_, fun hp => ⟨fun q hq before behind hqueue he => ?_, fun hq hcheck before behind hqueue he => ?_, fun hq hcheck => ?_⟩⟩⟩⟩
  · obtain ⟨hmem, hwaiting⟩ := not_mem_flights_of_candidate he
    exact ⟨hmem, hwaiting, candidate_first he⟩
  · rintro ⟨x, hx, -⟩
    rw [hnone] at hx
    cases hx
  · exact exec_attemptStart_not hnot
  · have hbuild := (congrArg (buildFrame · s) ho).trans rfl
    exact exec_attemptStart_sends hb hc hbuild rfl rfl hq he
  · have hbuild := (congrArg (buildFrame · s) ho).trans
      (congrArg (fun u => Build.frame .inquiry (inquiryPayload k) (s.setInquiry u)) (InquiryUnit.change_eq ..))
    exact exec_attemptStart_sends hb hc hbuild rfl rfl hq he
  · have hbuild := (congrArg (buildFrame · s) ho).trans (buildAnswer_sends hf hp h1)
    exact exec_attemptStart_sends hb hc hbuild rfl rfl hq he
  · have hbuild : buildFrame e.owner s = .refusedBuild (((s.entryGone e.owner).touched x k).answerDropped l k) := by
      rw [ho]
      exact buildAnswer_zero hf hp h0
    exact exec_attemptStart_refused hb hc hbuild
  · have hbuild : buildFrame e.owner s = .refusedBuild ((s.entryGone e.owner).answerDropped l k) := by
      rw [ho]
      exact buildAnswer_absent hf
    exact exec_attemptStart_refused hb hc hbuild
  · have hbuild : buildFrame e.owner s = .refusedBuild (memoryFault x.key (s.entryGone e.owner)) := by
      rw [ho]
      exact buildAnswer_spoilt hf hp
    exact exec_attemptStart_halts hb hc hbuild
  · have hbuild := (congrArg (buildFrame · s) ho).trans (buildCorrection_sends hown)
    exact exec_attemptStart_sends hb hc hbuild rfl rfl hq he
  · have hbuild : buildFrame e.owner s = .refusedBuild (memoryFault x.key (s.entryGone e.owner)) := by
      rw [ho]
      exact buildClaim_spoilt hi hf hp
    exact exec_attemptStart_halts hb hc hbuild
  · have hbuild := (congrArg (buildFrame · s) ho).trans (buildClaim_again hi hf hp hq)
    exact exec_attemptStart_sends hb hc hbuild rfl rfl hqueue he
  · have hbuild := (congrArg (buildFrame · s) ho).trans (buildClaim_first hi hf hp hq hcheck)
    exact exec_attemptStart_sends hb hc hbuild rfl rfl hqueue he
  · have hbuild : buildFrame e.owner s = .refusedBuild (decideItem tag .hold .mass
        (((s.entryGone e.owner).touched x it.key).changed tag
          fun y => { y with massCheck := massCheck (s.rules.classAt it.cls) x.count x.refMass it.mass })) := by
      rw [ho]
      exact buildClaim_mismatch hi hf hp hq hcheck
    exact exec_attemptStart_refused hb hc hbuild
end
